-- ==== Sys2Proof/Syntax.lean ====
section
/-!
DEFINITION. The commands of AES_CORE (R115): the hardware's instructions, one constructor for each row of
spec/opcode_table.json. All operands but the round index and the byte count are implicit registers (R111).
-/
namespace Sys2Proof

/-- A command. `rnd` is the unsigned round index C[11:8] and `cnt` the unsigned byte count C[20:16] (R111). -/
inductive Instr where
  | nop
  | subBytes
  | invSubBytes
  | shiftRows
  | invShiftRows
  | mixColumns
  | invMixColumns
  | addRoundKey (rnd : Nat)
  | encRound (rnd : Nat)
  | decRound (rnd : Nat)
  | encryptBlock
  | decryptBlock
  | keyExpand
  | gfMul
  | sboxFwd
  | sboxInv
  | modeInit
  | processBlock
  | finalize (cnt : Nat)
  | zeroize
deriving DecidableEq, Repr

end Sys2Proof
end

