-- ==== Sys2Proof/WellFormed.lean ====
section
/-!
DEFINITION. Which commands are well formed: the operand fields hold values their encoding admits (R110).
Values the encoding admits but the command turns away (rnd > NR, cnt > 16) are not an encoding question (R112).
-/
namespace Sys2Proof

/-- RND is a 4-bit field: "round index 0..15" (R110). -/
def Instr.roundFits : Instr → Bool
  | .addRoundKey rnd => rnd < 16
  | .encRound rnd => rnd < 16
  | .decRound rnd => rnd < 16
  | _ => true

/-- CNT is a 5-bit field: "byte count 0..31" (R110). -/
def Instr.countFits : Instr → Bool
  | .finalize cnt => cnt < 32
  | _ => true

/-- A command that some command word spells. -/
def Instr.wellFormed (i : Instr) : Bool := i.roundFits && i.countFits

end Sys2Proof
end

