-- ==== Sys2Proof/Word.lean ====
section
/-!
DEFINITION. The data words of the hardware: bytes, 32-bit bus words, 4-byte columns and 16-byte blocks.
-/
namespace Sys2Proof

/-- A byte is 8 bits (R12). -/
abbrev Byte := BitVec 8

/-- A word is 32 bits, the width of the bus and of every register (R10, R12, R31). -/
abbrev Word := BitVec 32

/-- Four bytes in array order: a state column from row 0 to row 3 (R13), and the key-schedule
word `t[0..3]` of R210 and `W[i][0..3]` of R45. -/
structure Col where
  b0 : Byte
  b1 : Byte
  b2 : Byte
  b3 : Byte
deriving DecidableEq, Repr

/-- The column of four zero bytes. -/
def Col.zero : Col := ⟨0, 0, 0, 0⟩

/-- A 16-byte block as four columns: byte `b[r + 4c]` is row `r` of column `c` (R13). Word `k` of a
16-byte register is column `k` (R16, R42). -/
structure Block where
  c0 : Col
  c1 : Col
  c2 : Col
  c3 : Col
deriving DecidableEq, Repr

/-- The block `0^16`. -/
def Block.zero : Block := ⟨Col.zero, Col.zero, Col.zero, Col.zero⟩

end Sys2Proof
end

