-- ==== Sys2Proof/Decode.lean ====
section
/-!
DEFINITION. The command word: its fields (R110), the opcode map with the match and mask of each command
(R115), the total decoder that rejects by name (R112, R116), and the encoder (R119).
-/
namespace Sys2Proof

/-- C[5:0]: OP. -/
def opField (c : Word) : BitVec 6 := c.extractLsb' 0 6

/-- `rnd = zext_32(C[11:8])`, an unsigned round index (R111). -/
def rndField (c : Word) : Nat := (c.extractLsb' 8 4).toNat

/-- `cnt = zext_32(C[20:16])`, an unsigned byte count (R111). -/
def cntField (c : Word) : Nat := (c.extractLsb' 16 5).toNat

/-- Why a word is an illegal command (R116). Both complete with the one code ILLEGAL_COMMAND. -/
inductive IllegalReason where
  /-- The OP value stands in no row of R115. -/
  | reservedOpcode
  /-- The OP value is defined, and a reserved bit or a bit of a field the command does not use is 1 (R112). -/
  | strayBits
deriving DecidableEq, Repr

/-- What the decoder reads from a command word. -/
inductive Decoded where
  | command (i : Instr)
  | illegal (why : IllegalReason)
deriving DecidableEq, Repr

/-- One row of the opcode map: the word matches when `C & mask = pattern` (R115). -/
structure OpcodeRow where
  mask : Word
  pattern : Word
  build : Word → Instr

/-- A row of a command without fields: `C == OP`, mask 0xFFFFFFFF (R115). -/
def plainRow (op : Word) (i : Instr) : OpcodeRow := ⟨0xFFFFFFFF, op, fun _ => i⟩

/-- A row of a command with the field RND: `C & 0xFFFFF0FF == OP` (R115). -/
def roundRow (op : Word) (f : Nat → Instr) : OpcodeRow := ⟨0xFFFFF0FF, op, fun c => f (rndField c)⟩

/-- A row of a command with the field CNT: `C & 0xFFE0FFFF == OP` (R115). -/
def countRow (op : Word) (f : Nat → Instr) : OpcodeRow := ⟨0xFFE0FFFF, op, fun c => f (cntField c)⟩

/-- The opcode map of R115, row by row. -/
def opcodeMap : List OpcodeRow :=
  [ plainRow 0x00 .nop,
    plainRow 0x01 .subBytes,
    plainRow 0x02 .invSubBytes,
    plainRow 0x03 .shiftRows,
    plainRow 0x04 .invShiftRows,
    plainRow 0x05 .mixColumns,
    plainRow 0x06 .invMixColumns,
    roundRow 0x07 .addRoundKey,
    roundRow 0x08 .encRound,
    roundRow 0x09 .decRound,
    plainRow 0x0A .encryptBlock,
    plainRow 0x0B .decryptBlock,
    plainRow 0x10 .keyExpand,
    plainRow 0x11 .gfMul,
    plainRow 0x12 .sboxFwd,
    plainRow 0x13 .sboxInv,
    plainRow 0x18 .modeInit,
    plainRow 0x19 .processBlock,
    countRow 0x1A .finalize,
    plainRow 0x1F .zeroize ]

/-- "The decoder takes the first row that matches" (R115). -/
def matchingRow (c : Word) : Option OpcodeRow := opcodeMap.find? fun row => c &&& row.mask == row.pattern

/-- Whether some row of R115 has this OP value. -/
def opcodeDefined (op : BitVec 6) : Bool := opcodeMap.any fun row => opField row.pattern == op

/-- "The decoder is total: every one of the 2^32 words is either a row of rule R115 or illegal" (R116). -/
def decode (c : Word) : Decoded :=
  match matchingRow c with
  | some row => .command (row.build c)
  | none => .illegal (if opcodeDefined (opField c) then .strayBits else .reservedOpcode)

/-- The OP value of a command (R115). -/
def Instr.opcode : Instr → BitVec 6
  | .nop => 0x00
  | .subBytes => 0x01
  | .invSubBytes => 0x02
  | .shiftRows => 0x03
  | .invShiftRows => 0x04
  | .mixColumns => 0x05
  | .invMixColumns => 0x06
  | .addRoundKey _ => 0x07
  | .encRound _ => 0x08
  | .decRound _ => 0x09
  | .encryptBlock => 0x0A
  | .decryptBlock => 0x0B
  | .keyExpand => 0x10
  | .gfMul => 0x11
  | .sboxFwd => 0x12
  | .sboxInv => 0x13
  | .modeInit => 0x18
  | .processBlock => 0x19
  | .finalize _ => 0x1A
  | .zeroize => 0x1F

/-- The value of RND: 0 in a command that does not use it (R112). -/
def Instr.roundOperand : Instr → Nat
  | .addRoundKey rnd => rnd
  | .encRound rnd => rnd
  | .decRound rnd => rnd
  | _ => 0

/-- The value of CNT: 0 in a command that does not use it (R112). -/
def Instr.countOperand : Instr → Nat
  | .finalize cnt => cnt
  | _ => 0

/-- The command word, field by field as R110 lays it out, highest bits first. -/
def commandWord (cnt : BitVec 5) (rnd : BitVec 4) (op : BitVec 6) : Word :=
  0#11 ++ cnt ++ 0#4 ++ rnd ++ 0#2 ++ op

/-- The word of a command: `OP`, `OP | (n << 8)` or `OP | (n << 16)` (R119). -/
def encode (i : Instr) : Word :=
  commandWord (BitVec.ofNat 5 i.countOperand) (BitVec.ofNat 4 i.roundOperand) i.opcode

/-- The instruction the decoder reads from the word `w` of the opcode table's numbering, bits above
`nbits` zero. There is exactly one length, 32 bits (R110, R117). -/
def decodeTableWord (nbits w : Nat) : Option Instr :=
  match decode (BitVec.ofNat 32 (w % 2 ^ nbits)) with
  | .command i => some i
  | .illegal _ => none

end Sys2Proof
end

