-- ==== Sys2Proof/Config.lean ====
section
/-!
DEFINITION. What the spec leaves open, as uninterpreted constants: the parameters AES_BASE and LATENCY of
R11, and the free values of R46 and R87. None has a body, so nothing can be proved of their values.
-/
namespace Sys2Proof.Config

/-- The parameter `AES_BASE` of R11 and R81 in units of 4096 bytes (log entry 9). -/
opaque aesBasePage : Nat

/-- `AES_BASE`: "It is a multiple of 4096 and is chosen by the platform" (R81). -/
def aesBase : Nat := 4096 * aesBasePage

/-- How many host slots beyond the first one the command word takes from issue to completion: the
parameter `LATENCY(cmd)` of R11 less 1. The second argument is the draw counter, so that two issues of
one command need not take equally long (R341 "a finite but unspecified delay"; log entry 4). -/
opaque extraLatency : Word → Nat → Nat

/-- `LATENCY(cmd)`: finite and at least 1 (R11, R346). -/
def latency (command : Word) (draw : Nat) : Nat := extraLatency command draw + 1

/-- The "unspecified 32-bit value" a read of an assigned register other than STATUS returns while
BUSY = 1, one per draw (R87, U4; log entry 3). -/
opaque busyReadValue : Nat → Word

/-- What PEND holds while BUSY = 0, where it "is undefined" (R46, U5), one per draw (log entry 2). -/
opaque undefinedPend : Nat → Word

end Sys2Proof.Config
end

