-- ==== Sys2Proof/Machine/State.lean ====
section
/-!
DEFINITION. The state of AES_CORE as plain data, one home for each register and field of R31 to R46, the
host's waiting accesses, and the state after reset (R51, R340).
-/
namespace Sys2Proof.Machine

/-- The five modes the block-mode engine implements (R3, R32). -/
inductive BlockMode where
  | ecb
  | cbc
  | cfb
  | ofb
  | ctr
deriving DecidableEq, Repr

/-- The direction bit of CTRL.DIR and INFO.DIR_R: 0 encrypt, 1 decrypt (R32, R38). -/
inductive Direction where
  | encrypt
  | decrypt
deriving DecidableEq, Repr

/-- The error codes of R300. Codes 8 to 15 are reserved and "never written", so they have no name here
(log entry 12). -/
inductive ErrCode where
  | none
  | invalidKeyLength
  | invalidState
  | invalidIvLength
  | unsupportedMode
  | uninitialized
  | illegalCommand
  | invalidRound
deriving DecidableEq, Repr

/-- The registers of the window (R31), each under its own name and number. -/
inductive Reg where
  | ctrl
  | cmd
  | status
  | keyLen
  | ivLen
  | gfOps
  | gfRes
  | info
  | key (i : Fin 8)
  | iv (k : Fin 4)
  | fb (k : Fin 4)
  | state (k : Fin 4)
  | din (k : Fin 4)
  | dout (k : Fin 4)
  | ks (i : Fin 60)
deriving DecidableEq, Repr

/-- The width of a bus access (R84): only `word` is served. -/
inductive AccessWidth where
  | byte
  | half
  | word
  /-- A burst wider than 32 bits. -/
  | burst
deriving DecidableEq, Repr

/-- One thing the host does, or one bus slot in which it does nothing (R6, R91, R118, R340; log entry 5). -/
inductive HostEvent where
  /-- A bus read at a byte offset of the window. -/
  | read (off : BitVec 12) (width : AccessWidth)
  /-- A bus write at a byte offset of the window. -/
  | write (off : BitVec 12) (width : AccessWidth) (value : Word)
  /-- The pseudo-instruction `wait`: read STATUS, repeated until the BUSY bit read is 0 (R119). -/
  | wait
  /-- The hardware reset is asserted (R340). -/
  | reset
  /-- A bus slot without an access to this block. -/
  | idle
deriving DecidableEq, Repr

/-- What the bus last answered the host. -/
inductive BusResponse where
  /-- No access has been served since reset. -/
  | noneYet
  /-- A served read returned this value. -/
  | data (value : Word)
  /-- A write was accepted. -/
  | ack
  /-- The access was refused with a bus error (R84). -/
  | busError
deriving DecidableEq, Repr

/-- The state. The register fields stand in the order of R31, then the hidden latch of R46, then the
model's own fields. -/
structure State where
  /-- CTRL.MODE (R32): stores any value. -/
  ctrlMode : BitVec 3
  /-- CTRL.DIR (R32). -/
  ctrlDir : Direction
  /-- CTRL.KSZ (R32): stores any value. -/
  ctrlKsz : BitVec 2
  /-- CTRL.IE (R32). -/
  ctrlIe : Bool
  /-- STATUS.BUSY (R33). -/
  busy : Bool
  /-- STATUS.KS_VALID (R33). -/
  ksValid : Bool
  /-- STATUS.MODE_VALID (R33). -/
  modeValid : Bool
  /-- STATUS.OVR (R33). -/
  ovr : Bool
  /-- STATUS.DONE (R33). -/
  doneFlag : Bool
  /-- STATUS.ERR (R33, R300). -/
  err : ErrCode
  /-- STATUS.OUT_LEN (R33). -/
  outLen : BitVec 5
  /-- KEY_LEN.LEN (R34). -/
  keyLen : Byte
  /-- IV_LEN.LEN (R35). -/
  ivLen : Byte
  /-- GF_OPS.A (R36). -/
  gfA : Byte
  /-- GF_OPS.B (R36). -/
  gfB : Byte
  /-- GF_RES.RES (R37). -/
  gfRes : Byte
  /-- INFO.NK (R38). -/
  nk : BitVec 4
  /-- INFO.NR (R38). -/
  nr : BitVec 4
  /-- INFO.MODE_R (R38). -/
  modeR : BlockMode
  /-- INFO.DIR_R (R38). -/
  dirR : Direction
  /-- KEY0-KEY7 (R39). -/
  key : Vector Col 8
  /-- IV0-IV3 (R40). -/
  iv : Block
  /-- FB0-FB3 (R41). -/
  fb : Block
  /-- STATE0-STATE3 (R42). -/
  stateReg : Block
  /-- DIN0-DIN3 (R43). -/
  din : Block
  /-- DOUT0-DOUT3 (R44). -/
  dout : Block
  /-- KS0-KS59, as the words `W[i]` of R45. -/
  ks : Vector Col 60
  /-- PEND (R46): the command word in flight. -/
  pend : Word
  /-- The model's own: host slots left before the command in flight may complete (log entry 4). -/
  delay : Nat
  /-- The model's own: host events still to be served, oldest first (log entry 5). -/
  host : List HostEvent
  /-- The model's own: the bus's last answer to the host (log entry 5). -/
  response : BusResponse
  /-- The model's own: how many free values have been drawn (log entries 2, 3, 4). -/
  draws : Nat
deriving DecidableEq, Repr

/-- Why the machine could stop with a fault. AES_CORE "has no trap mechanism" (R303), no command can hang
(R341), and a refused bus access is answered with a bus error and has no other effect (R84): nothing
stops this machine, so the type has no constructor (log entry 6). -/
inductive Fault
deriving DecidableEq, Repr

/-- Why an instruction has no meaning in the model. -/
inductive Refusal where
  /-- Raised by an arm of `exec` whose instruction has no meaning yet, and by nothing else; safe, since
  nothing can be proved of a next state. No arm raises it: every command has its meaning. -/
  | notModelled (mnemonic : String)
deriving DecidableEq, Repr

/-- The machine right after reset: "0 for every register and field of rule R31 to rule R45" (R51). PEND is
undefined there and its 0 is the model's choice (log entry 1); the last four fields are the model's own
(log entries 5 and 14). -/
def State.reset : State where
  ctrlMode := 0
  ctrlDir := .encrypt
  ctrlKsz := 0
  ctrlIe := false
  busy := false
  ksValid := false
  modeValid := false
  ovr := false
  doneFlag := false
  err := .none
  outLen := 0
  keyLen := 0
  ivLen := 0
  gfA := 0
  gfB := 0
  gfRes := 0
  nk := 0
  nr := 0
  modeR := .ecb
  dirR := .encrypt
  key := Vector.replicate 8 Col.zero
  iv := Block.zero
  fb := Block.zero
  stateReg := Block.zero
  din := Block.zero
  dout := Block.zero
  ks := Vector.replicate 60 Col.zero
  pend := 0
  delay := 0
  host := []
  response := .noneYet
  draws := 0

end Sys2Proof.Machine
end

