-- ==== Sys2Proof/Machine/Flags.lean ====
section
/-!
DEFINITION. The control, status and information words bit by bit (R32, R33, R38), the host's write of
STATUS (R33), the writes of a completion (R304) and the interrupt line (R305).
-/
namespace Sys2Proof.Machine

/-- The number a code is written with in STATUS.ERR (R300). -/
def errCode : ErrCode → BitVec 4
  | .none => 0
  | .invalidKeyLength => 1
  | .invalidState => 2
  | .invalidIvLength => 3
  | .unsupportedMode => 4
  | .uninitialized => 5
  | .illegalCommand => 6
  | .invalidRound => 7

/-- The number of a mode in CTRL.MODE and INFO.MODE_R: "0 ECB, 1 CBC, 2 CFB, 3 OFB, 4 CTR" (R32). -/
def modeCode : BlockMode → BitVec 3
  | .ecb => 0
  | .cbc => 1
  | .cfb => 2
  | .ofb => 3
  | .ctr => 4

/-- The mode a CTRL.MODE value selects; 5, 6 and 7 "are stored but unsupported" (R32). -/
def modeOfCode (m : BitVec 3) : Option BlockMode :=
  if m = 0 then some .ecb
  else if m = 1 then some .cbc
  else if m = 2 then some .cfb
  else if m = 3 then some .ofb
  else if m = 4 then some .ctr
  else none

/-- A direction as its bit: 0 encrypt, 1 decrypt (R32). -/
def dirBit : Direction → BitVec 1
  | .encrypt => 0
  | .decrypt => 1

/-- The direction of a bit. -/
def dirOfBit (b : Bool) : Direction := if b then .decrypt else .encrypt

/-- CTRL as read: reserved bits [31:9] and [7:6] are 0 (R32). -/
def ctrlWord (s : State) : Word :=
  0#23 ++ BitVec.ofBool s.ctrlIe ++ 0#2 ++ s.ctrlKsz ++ dirBit s.ctrlDir ++ s.ctrlMode

/-- A host write of CTRL: every field stores any value, reserved bits are ignored (R32). -/
def writeCtrl (v : Word) (s : State) : State :=
  { s with
    ctrlMode := v.extractLsb' 0 3
    ctrlDir := dirOfBit (v.getLsbD 3)
    ctrlKsz := v.extractLsb' 4 2
    ctrlIe := v.getLsbD 8 }

/-- STATUS as read: reserved bits [31:21], [15:12] and [7:5] are 0 (R33). -/
def statusWord (s : State) : Word :=
  0#11 ++ s.outLen ++ 0#4 ++ errCode s.err ++ 0#3 ++ BitVec.ofBool s.doneFlag ++ BitVec.ofBool s.ovr
    ++ BitVec.ofBool s.modeValid ++ BitVec.ofBool s.ksValid ++ BitVec.ofBool s.busy

/-- A host write of STATUS: 1 in bit 3 clears OVR, 1 in bit 4 clears DONE, "every other bit of the written
value is ignored" (R33). -/
def writeStatus (v : Word) (s : State) : State :=
  { s with
    ovr := s.ovr && !v.getLsbD 3
    doneFlag := s.doneFlag && !v.getLsbD 4 }

/-- INFO as read: reserved bits [31:12] are 0 (R38). -/
def infoWord (s : State) : Word := 0#20 ++ dirBit s.dirR ++ modeCode s.modeR ++ s.nr ++ s.nk

/-- The STATUS writes of a completion with this code (R304, R341). -/
def completionFlags (code : ErrCode) (s : State) : State :=
  { s with err := code, doneFlag := true, busy := false }

/-- The interrupt line: `irq = CTRL.IE AND STATUS.DONE` (R305). -/
def irq (s : State) : Bool := s.ctrlIe && s.doneFlag

end Sys2Proof.Machine
end

