-- ==== Sys2Proof/Machine/Bytes.lean ====
section
/-!
DEFINITION. Byte and word views of columns and blocks: indexing (R13), exclusive or on arrays (R14), the
little-endian register lanes (R14, R16, R82) and the big-endian counter bytes (R14, R83).
-/
namespace Sys2Proof.Machine

/-- Byte `j` of a column or key-schedule word. -/
def colByte (w : Col) (j : Fin 4) : Byte :=
  match j with
  | 0 => w.b0
  | 1 => w.b1
  | 2 => w.b2
  | 3 => w.b3

/-- The column with the given bytes. -/
def colOfFn (f : Fin 4 → Byte) : Col := ⟨f 0, f 1, f 2, f 3⟩

/-- Column `c` of a block, which is also word `c` of its register (R42). -/
def blockCol (b : Block) (c : Fin 4) : Col :=
  match c with
  | 0 => b.c0
  | 1 => b.c1
  | 2 => b.c2
  | 3 => b.c3

/-- A block with word `c` replaced; the other bytes keep their values (R90). -/
def setBlockCol (b : Block) (c : Fin 4) (w : Col) : Block :=
  match c with
  | 0 => { b with c0 := w }
  | 1 => { b with c1 := w }
  | 2 => { b with c2 := w }
  | 3 => { b with c3 := w }

/-- `s[r + 4c]`: the byte at row `r` and column `c` (R13). -/
def blockAt (b : Block) (r c : Fin 4) : Byte := colByte (blockCol b c) r

/-- The block with byte `f r c` at row `r` and column `c`. -/
def blockOfRC (f : Fin 4 → Fin 4 → Byte) : Block :=
  ⟨colOfFn fun r => f r 0, colOfFn fun r => f r 1, colOfFn fun r => f r 2, colOfFn fun r => f r 3⟩

/-- The block with byte `f k` at index `k`, for `k = r + 4c` (R13). -/
def blockOfBytes (f : Nat → Byte) : Block := blockOfRC fun r c => f (r.val + 4 * c.val)

/-- The bytes `b[0..15]` in order. -/
def blockBytes (b : Block) : List Byte :=
  [b.c0.b0, b.c0.b1, b.c0.b2, b.c0.b3, b.c1.b0, b.c1.b1, b.c1.b2, b.c1.b3,
   b.c2.b0, b.c2.b1, b.c2.b2, b.c2.b3, b.c3.b0, b.c3.b1, b.c3.b2, b.c3.b3]

/-- Byte `b[k]` for `k` in 0..15. -/
def blockByte (b : Block) (k : Nat) : Byte := (blockBytes b).getD k 0

/-- Exclusive or of two words, byte by byte (R14). -/
def colXor (v w : Col) : Col := ⟨v.b0 ^^^ w.b0, v.b1 ^^^ w.b1, v.b2 ^^^ w.b2, v.b3 ^^^ w.b3⟩

/-- Exclusive or of two blocks, byte by byte (R14). -/
def blockXor (a b : Block) : Block :=
  ⟨colXor a.c0 b.c0, colXor a.c1 b.c1, colXor a.c2 b.c2, colXor a.c3 b.c3⟩

/-- `LE32(b[0..3])`: byte 0 is in bits [7:0] (R14, R16). -/
def le32 (w : Col) : Word := w.b3 ++ w.b2 ++ w.b1 ++ w.b0

/-- The bytes of a register word: byte `k` is bits `[8k+7 : 8k]` (R16). -/
def colOfLe32 (v : Word) : Col :=
  ⟨v.extractLsb' 0 8, v.extractLsb' 8 8, v.extractLsb' 16 8, v.extractLsb' 24 8⟩

/-- `BE32(b[0..3])`: byte 0 is the most significant (R14). -/
def be32 (w : Col) : Word := w.b0 ++ w.b1 ++ w.b2 ++ w.b3

/-- `BE32inv(n)`: the four bytes `b` with `BE32(b) = n` (R14). -/
def be32Inv (n : Word) : Col :=
  ⟨n.extractLsb' 24 8, n.extractLsb' 16 8, n.extractLsb' 8 8, n.extractLsb' 0 8⟩

end Sys2Proof.Machine
end

