-- ==== Sys2Proof/Machine/Gf.lean ====
section
/-!
DEFINITION. GF2_8_mult and S-box_mem (40_gf_sbox.md): `xtime`, `gfMul`, and the two constant tables with
their lookups.
-/
namespace Sys2Proof.Machine

/-- Multiplication by 0x02 modulo the AES polynomial 0x11B (R140). -/
def xtime (a : Byte) : Byte := (a <<< 1) ^^^ (if a.getLsbD 7 then 0x1B else 0x00)

/-- The remaining iterations of the shift-and-conditional-XOR algorithm of R141, with running product `p`. -/
def gfMulLoop : Nat → Byte → Byte → Byte → Byte
  | 0, p, _, _ => p
  | n + 1, p, a, b => gfMulLoop n (if b.getLsbD 0 then p ^^^ a else p) (xtime a) (b >>> 1)

/-- The product in GF(2^8) modulo 0x11B, over 8 bit iterations (R141). -/
def gfMul (a b : Byte) : Byte := gfMulLoop 8 0 a b

/-- The forward table, one 16-byte row for each high nibble, the byte of column 0 first (R142). -/
def sboxRows : List (BitVec 128) :=
  [ 0x637c777bf26b6fc53001672bfed7ab76,
    0xca82c97dfa5947f0add4a2af9ca472c0,
    0xb7fd9326363ff7cc34a5e5f171d83115,
    0x04c723c31896059a071280e2eb27b275,
    0x09832c1a1b6e5aa0523bd6b329e32f84,
    0x53d100ed20fcb15b6acbbe394a4c58cf,
    0xd0efaafb434d338545f9027f503c9fa8,
    0x51a3408f929d38f5bcb6da2110fff3d2,
    0xcd0c13ec5f974417c4a77e3d645d1973,
    0x60814fdc222a908846eeb814de5e0bdb,
    0xe0323a0a4906245cc2d3ac629195e479,
    0xe7c8376d8dd54ea96c56f4ea657aae08,
    0xba78252e1ca6b4c6e8dd741f4bbd8b8a,
    0x703eb5664803f60e613557b986c11d9e,
    0xe1f8981169d98e949b1e87e9ce5528df,
    0x8ca1890dbfe6426841992d0fb054bb16 ]

/-- The inverse table, laid out as the forward one (R143). -/
def invSboxRows : List (BitVec 128) :=
  [ 0x52096ad53036a538bf40a39e81f3d7fb,
    0x7ce339829b2fff87348e4344c4dee9cb,
    0x547b9432a6c2233dee4c950b42fac34e,
    0x082ea16628d924b2765ba2496d8bd125,
    0x72f8f66486689816d4a45ccc5d65b692,
    0x6c704850fdedb9da5e154657a78d9d84,
    0x90d8ab008cbcd30af7e45805b8b34506,
    0xd02c1e8fca3f0f02c1afbd0301138a6b,
    0x3a9111414f67dcea97f2cfcef0b4e673,
    0x96ac7422e7ad3585e2f937e81c75df6e,
    0x47f11a711d29c5896fb7620eaa18be1b,
    0xfc563e4bc6d279209adbc0fe78cd5af4,
    0x1fdda8338807c731b11210592780ec5f,
    0x60517fa919b54a0d2de57a9f93c99cef,
    0xa0e03b4dae2af5b0c8ebbb3c83539961,
    0x172b047eba77d626e169146355210c7d ]

/-- The entry of a 256-byte table: "row = high nibble of the index and column = low nibble" (R142). -/
def tableLookup (rows : List (BitVec 128)) (x : Byte) : Byte :=
  (rows.getD (x.toNat / 16) 0).extractLsb' (8 * (15 - x.toNat % 16)) 8

/-- `SBOX[x]` (R142). -/
def sbox (x : Byte) : Byte := tableLookup sboxRows x

/-- `INV_SBOX[x]` (R143). -/
def invSbox (x : Byte) : Byte := tableLookup invSboxRows x

end Sys2Proof.Machine
end

