-- ==== Sys2Proof/Machine/KeyExpansion.lean ====
section
/-!
DEFINITION. The key schedule as a function of the key bytes (42_key_schedule.md R210, R211).
-/
namespace Sys2Proof.Machine

/-- `[t[1], t[2], t[3], t[0]]` (R210). -/
def rotWord (t : Col) : Col := ⟨t.b1, t.b2, t.b3, t.b0⟩

/-- SBOX on each byte (R210). -/
def subWord (t : Col) : Col := ⟨sbox t.b0, sbox t.b1, sbox t.b2, sbox t.b3⟩

/-- `[rc, 0x00, 0x00, 0x00]` (R210). -/
def rconWord (rc : Byte) : Col := ⟨rc, 0, 0, 0⟩

/-- What `w[i - Nk]` is XORed with to give `w[i]`, from `temp = w[i - 1]` (R211). -/
def scheduleTemp (nk i : Nat) (rc : Byte) (temp : Col) : Col :=
  if i % nk = 0 then colXor (subWord (rotWord temp)) (rconWord rc)
  else if nk > 6 ∧ i % nk = 4 then subWord temp
  else temp

/-- The loop of R211 for `n` more words, from the words so far and the round constant. -/
def expandLoop (nk : Nat) : Nat → Byte → List Col → List Col
  | 0, _, w => w
  | n + 1, rc, w =>
    let i := w.length
    let next := colXor (w.getD (i - nk) Col.zero) (scheduleTemp nk i rc (w.getD (i - 1) Col.zero))
    expandLoop nk n (if i % nk = 0 then xtime rc else rc) (w ++ [next])

/-- `Nk <- 4 + 2·KSZ` (R211). -/
def nkOf (ksz : Nat) : Nat := 4 + 2 * ksz

/-- `Nr <- Nk + 6` (R9, R211). -/
def nrOf (ksz : Nat) : Nat := nkOf ksz + 6

/-- The `4·(Nr+1)` meaningful words of the schedule (R212): the first Nk are the key's. -/
def scheduleWords (ksz : Nat) (key : Vector Col 8) : List Col :=
  expandLoop (nkOf ksz) (4 * (nrOf ksz + 1) - nkOf ksz) 0x01 (key.toList.take (nkOf ksz))

/-- KS0-KS59 after KEY_EXPAND: "for i in 4·(Nr+1) .. 59: w[i] <- [0, 0, 0, 0]" (R211). -/
def keySchedule (ksz : Nat) (key : Vector Col 8) : Vector Col 60 :=
  Vector.ofFn fun i => (scheduleWords ksz key).getD i.val Col.zero

end Sys2Proof.Machine
end

