-- ==== Sys2Proof/Machine/Rounds.lean ====
section
/-!
DEFINITION. The round transformations as functions from state to state (41_round_engine.md R170 to R179),
over a key schedule `ks` and a round count `nr`.
-/
namespace Sys2Proof.Machine

/-- `S'[k] <- SBOX[S[k]]` for every k (R170). -/
def subBytes (s : Block) : Block := blockOfRC fun r c => sbox (blockAt s r c)

/-- `S'[k] <- INV_SBOX[S[k]]` for every k (R171). -/
def invSubBytes (s : Block) : Block := blockOfRC fun r c => invSbox (blockAt s r c)

/-- `S'[r + 4c] <- S[r + 4·((c + r) mod 4)]` (R172); addition on `Fin 4` is modulo 4. -/
def shiftRows (s : Block) : Block := blockOfRC fun r c => blockAt s r (c + r)

/-- `S'[r + 4c] <- S[r + 4·((c - r) mod 4)]` (R173); subtraction on `Fin 4` is modulo 4. -/
def invShiftRows (s : Block) : Block := blockOfRC fun r c => blockAt s r (c - r)

/-- One column of MixColumns (R174). -/
def mixCol (a : Col) : Col where
  b0 := gfMul 0x02 a.b0 ^^^ gfMul 0x03 a.b1 ^^^ a.b2 ^^^ a.b3
  b1 := a.b0 ^^^ gfMul 0x02 a.b1 ^^^ gfMul 0x03 a.b2 ^^^ a.b3
  b2 := a.b0 ^^^ a.b1 ^^^ gfMul 0x02 a.b2 ^^^ gfMul 0x03 a.b3
  b3 := gfMul 0x03 a.b0 ^^^ a.b1 ^^^ a.b2 ^^^ gfMul 0x02 a.b3

/-- One column of InvMixColumns (R175). -/
def invMixCol (a : Col) : Col where
  b0 := gfMul 0x0e a.b0 ^^^ gfMul 0x0b a.b1 ^^^ gfMul 0x0d a.b2 ^^^ gfMul 0x09 a.b3
  b1 := gfMul 0x09 a.b0 ^^^ gfMul 0x0e a.b1 ^^^ gfMul 0x0b a.b2 ^^^ gfMul 0x0d a.b3
  b2 := gfMul 0x0d a.b0 ^^^ gfMul 0x09 a.b1 ^^^ gfMul 0x0e a.b2 ^^^ gfMul 0x0b a.b3
  b3 := gfMul 0x0b a.b0 ^^^ gfMul 0x0d a.b1 ^^^ gfMul 0x09 a.b2 ^^^ gfMul 0x0e a.b3

/-- Each column times the forward matrix (R174). -/
def mixColumns (s : Block) : Block := ⟨mixCol s.c0, mixCol s.c1, mixCol s.c2, mixCol s.c3⟩

/-- Each column times the inverse matrix (R175). -/
def invMixColumns (s : Block) : Block := ⟨invMixCol s.c0, invMixCol s.c1, invMixCol s.c2, invMixCol s.c3⟩

/-- `W[i]` (R45). The schedule has no word beyond 59; no reachable state asks for one (R182; log entry 11). -/
def scheduleWord (ks : Vector Col 60) (i : Nat) : Col := if h : i < 60 then ks[i] else Col.zero

/-- `RoundKey(r)[j + 4c] = W[4r + c][j]` (R45). -/
def roundKey (ks : Vector Col 60) (r : Nat) : Block :=
  ⟨scheduleWord ks (4 * r), scheduleWord ks (4 * r + 1), scheduleWord ks (4 * r + 2), scheduleWord ks (4 * r + 3)⟩

/-- `S'[j + 4c] <- S[j + 4c] ⊕ W[4r + c][j]` (R176). -/
def addRoundKey (ks : Vector Col 60) (s : Block) (r : Nat) : Block := blockXor s (roundKey ks r)

/-- One state of the encrypt round state machine, for `r <= nr` (R177). -/
def encRound (ks : Vector Col 60) (nr : Nat) (s : Block) (r : Nat) : Block :=
  if r = 0 then addRoundKey ks s 0
  else if r < nr then addRoundKey ks (mixColumns (shiftRows (subBytes s))) r
  else addRoundKey ks (shiftRows (subBytes s)) nr

/-- One state of the decrypt mirror, for `r <= nr` (R178). DESIGN CHOICE at `r = 0`, where R178 contradicts itself:
its pseudocode is followed, not its corner case "both are AddRoundKey(0)" (log entry 19). -/
def decRound (ks : Vector Col 60) (nr : Nat) (s : Block) (r : Nat) : Block :=
  if r = nr then addRoundKey ks s nr
  else if r = 0 then addRoundKey ks (invSubBytes (invShiftRows s)) 0
  else invMixColumns (addRoundKey ks (invSubBytes (invShiftRows s)) r)

/-- `E_KS(x)`: rounds 0, 1, ..., nr in order (R179). -/
def encryptBlock (ks : Vector Col 60) (nr : Nat) (x : Block) : Block :=
  (List.range (nr + 1)).foldl (encRound ks nr) x

/-- `D_KS(x)`: rounds nr, nr - 1, ..., 0 in order (R179). -/
def decryptBlock (ks : Vector Col 60) (nr : Nat) (x : Block) : Block :=
  (List.range (nr + 1)).reverse.foldl (decRound ks nr) x

end Sys2Proof.Machine
end

