-- ==== Sys2Proof/Machine/Modes.lean ====
section
/-!
DEFINITION. The chaining function of each mode and the padding, as functions (43_block_modes.md R231 to
R237, R239, R240).
-/
namespace Sys2Proof.Machine

/-- The feedback register with its counter advanced: `FB[12..15] <- BE32inv((BE32(FB[12..15]) + 1) mod 2^32)`,
nonce unchanged (R237). -/
def nextCounter (fb : Block) : Block := { fb with c3 := be32Inv (be32 fb.c3 + 1) }

/-- `ModeBlock(x)` under the schedule `ks` with `nr` rounds: the output block and the new FB. Every read of
`fb` is of its value before (R231); the bodies are R233 (ECB), R234 (CBC), R235 (CFB), R236 (OFB), R237 (CTR). -/
def modeBlock (ks : Vector Col 60) (nr : Nat) (mode : BlockMode) (dir : Direction) (fb x : Block) : Block × Block :=
  match mode, dir with
  | .ecb, .encrypt => (encryptBlock ks nr x, fb)
  | .ecb, .decrypt => (decryptBlock ks nr x, fb)
  | .cbc, .encrypt => (encryptBlock ks nr (blockXor x fb), encryptBlock ks nr (blockXor x fb))
  | .cbc, .decrypt => (blockXor (decryptBlock ks nr x) fb, x)
  | .cfb, .encrypt => (blockXor x (encryptBlock ks nr fb), blockXor x (encryptBlock ks nr fb))
  | .cfb, .decrypt => (blockXor x (encryptBlock ks nr fb), x)
  | .ofb, _ => (blockXor x (encryptBlock ks nr fb), encryptBlock ks nr fb)
  | .ctr, _ => (blockXor x (encryptBlock ks nr fb), nextCounter fb)

/-- `Pad(d[0..n-1])` for `1 <= n <= 16`: the first `n` bytes, then 0x80 if there is room, then zeros (R239). -/
def padBlock (d : Block) (n : Nat) : Block :=
  blockOfBytes fun k => if k < n then blockByte d k else if k = n then 0x80 else 0x00

/-- `StripLen(x)`: the index of the last nonzero byte if that byte is 0x80, else 16 (R240). -/
def stripLen (x : Block) : Nat :=
  match (blockBytes x).reverse.dropWhile (· == 0x00) with
  | marker :: rest => if marker = 0x80 then rest.length else 16
  | [] => 16

/-- `x[0..m-1] ‖ 0x00^(16-m)` (R241). -/
def keepBytes (x : Block) (m : Nat) : Block := blockOfBytes fun k => if k < m then blockByte x k else 0x00

end Sys2Proof.Machine
end

