-- ==== Sys2Proof/Machine/Operands.lean ====
section
/-!
DEFINITION. The implicit operands of the commands (R111) and the checks on them, each answering the error
it raises or `none` (R300, R302).
-/
namespace Sys2Proof.Machine

/-- CTRL.KSZ as a number: the requested key size (R32, R211). -/
def keySizeOperand (s : State) : Nat := s.ctrlKsz.toNat

/-- INFO.NR as a number: `Nr` of the current schedule (R38). -/
def roundCount (s : State) : Nat := s.nr.toNat

/-- The mode the next MODE_INIT latches; the check of R232 has turned 5, 6 and 7 away before it is used
(log entry 11). -/
def selectedMode (s : State) : BlockMode := (modeOfCode s.ctrlMode).getD .ecb

/-- `ModeBlock(x)` of the current transform instance (R230, R231). -/
def modeStep (s : State) (x : Block) : Block × Block := modeBlock s.ks (roundCount s) s.modeR s.dirR s.fb x

/-- "The checks run in this order, and the first that fails is reported" (R302). -/
def firstError : List ErrCode → ErrCode
  | [] => .none
  | e :: rest => if e = .none then firstError rest else e

/-- `KS_VALID = 1`, else UNINITIALIZED (R302 order 2). -/
def scheduleCheck (s : State) : ErrCode := if s.ksValid then .none else .uninitialized

/-- `MODE_VALID = 1`, else UNINITIALIZED (R302 order 3). -/
def transformCheck (s : State) : ErrCode := if s.modeValid then .none else .uninitialized

/-- `rnd <= INFO.NR`, else INVALID_ROUND (R176). -/
def roundCheck (rnd : Nat) (s : State) : ErrCode := if rnd ≤ roundCount s then .none else .invalidRound

/-- `KSZ != 3` and `LEN == 16 + 8·KSZ`, else INVALID_KEY_LENGTH (R211). -/
def keyLengthCheck (s : State) : ErrCode :=
  if s.ctrlKsz ≠ 3 ∧ s.keyLen.toNat = 16 + 8 * keySizeOperand s then .none else .invalidKeyLength

/-- `CTRL.MODE <= 4`, else UNSUPPORTED_MODE (R232). -/
def modeCheck (s : State) : ErrCode := if s.ctrlMode ≤ 4 then .none else .unsupportedMode

/-- `CTRL.MODE == 0` (ECB), or `IV_LEN.LEN == 16`, else INVALID_IV_LENGTH (R232). -/
def ivLengthCheck (s : State) : ErrCode := if s.ctrlMode = 0 ∨ s.ivLen = 16 then .none else .invalidIvLength

/-- `n <= 16`, else INVALID_STATE (R241). -/
def chunkSizeCheck (n : Nat) : ErrCode := if n ≤ 16 then .none else .invalidState

/-- `DIR_R == 0`, or `n == 0`, or `n == 16`, else INVALID_STATE (R241). DESIGN CHOICE: the check reads DIR_R in every
mode, as R241 writes it, although R232 says no rule reads it for OFB and CTR (log entry 20). -/
def chunkWholeCheck (n : Nat) (s : State) : ErrCode :=
  if s.dirR = .encrypt ∨ n = 0 ∨ n = 16 then .none else .invalidState

end Sys2Proof.Machine
end

