-- ==== Sys2Proof/Machine/Ops.lean ====
section
/-!
DEFINITION. The named operations every meaning and every bus access goes through: the register window
(R31), issue and completion of a command (R341), raising an error (R301, R304), the writes of the command
rules (R50), and the reset event (R340).
-/
namespace Sys2Proof.Machine

/-! ### The register window -/

/-- The byte offset of a register (R31). -/
def regOffset : Reg → Nat
  | .ctrl => 0x000
  | .cmd => 0x004
  | .status => 0x008
  | .keyLen => 0x00C
  | .ivLen => 0x010
  | .gfOps => 0x014
  | .gfRes => 0x018
  | .info => 0x01C
  | .key i => 0x020 + 4 * i.val
  | .iv k => 0x040 + 4 * k.val
  | .fb k => 0x050 + 4 * k.val
  | .state k => 0x060 + 4 * k.val
  | .din k => 0x070 + 4 * k.val
  | .dout k => 0x080 + 4 * k.val
  | .ks i => 0x100 + 4 * i.val

/-- Every register of the window, in the order of R31. -/
def allRegs : List Reg :=
  [.ctrl, .cmd, .status, .keyLen, .ivLen, .gfOps, .gfRes, .info]
    ++ (List.finRange 8).map .key ++ (List.finRange 4).map .iv ++ (List.finRange 4).map .fb
    ++ (List.finRange 4).map .state ++ (List.finRange 4).map .din ++ (List.finRange 4).map .dout
    ++ (List.finRange 60).map .ks

/-- The register at an offset, if R31 assigns the offset to one. -/
def regAt (off : BitVec 12) : Option Reg := allRegs.find? fun r => regOffset r == off.toNat

/-- What a read of a register returns while BUSY = 0 (R30 to R45): CMD is write-only and reads 0. -/
def readReg (s : State) : Reg → Word
  | .ctrl => ctrlWord s
  | .cmd => 0
  | .status => statusWord s
  | .keyLen => s.keyLen.zeroExtend 32
  | .ivLen => s.ivLen.zeroExtend 32
  | .gfOps => 0#16 ++ s.gfB ++ s.gfA
  | .gfRes => s.gfRes.zeroExtend 32
  | .info => infoWord s
  | .key i => le32 s.key[i]
  | .iv k => le32 (blockCol s.iv k)
  | .fb k => le32 (blockCol s.fb k)
  | .state k => le32 (blockCol s.stateReg k)
  | .din k => le32 (blockCol s.din k)
  | .dout k => le32 (blockCol s.dout k)
  | .ks i => le32 s.ks[i]

/-- Issue: `PEND <- C ; STATUS.BUSY <- 1`, "Nothing else changes at issue" (R341). The latency of this
command is drawn here (log entry 4). -/
def issue (c : Word) (s : State) : State :=
  { s with pend := c, busy := true, delay := Config.latency c s.draws, draws := s.draws + 1 }

/-- KEY_LEN <- bits [7:0] (R34). -/
def putKeyLen (v : Word) (s : State) : State := { s with keyLen := v.extractLsb' 0 8 }

/-- IV_LEN <- bits [7:0] (R35). -/
def putIvLen (v : Word) (s : State) : State := { s with ivLen := v.extractLsb' 0 8 }

/-- GF_OPS <- bits [15:0] (R36). -/
def putGfOps (v : Word) (s : State) : State := { s with gfA := v.extractLsb' 0 8, gfB := v.extractLsb' 8 8 }

/-- KEYi <- a word (R39). -/
def putKeyWord (i : Fin 8) (v : Word) (s : State) : State := { s with key := s.key.set i (colOfLe32 v) }

/-- IVk <- a word (R40). -/
def putIvWord (k : Fin 4) (v : Word) (s : State) : State := { s with iv := setBlockCol s.iv k (colOfLe32 v) }

/-- STATEk <- a word (R42). -/
def putStateWord (k : Fin 4) (v : Word) (s : State) : State :=
  { s with stateReg := setBlockCol s.stateReg k (colOfLe32 v) }

/-- DINk <- a word (R43). -/
def putDinWord (k : Fin 4) (v : Word) (s : State) : State := { s with din := setBlockCol s.din k (colOfLe32 v) }

/-- What a write of a register does while BUSY = 0 (R30 to R45, R89): a write to a read-only register is
ignored. -/
def writeReg (r : Reg) (v : Word) (s : State) : State :=
  match r with
  | .ctrl => writeCtrl v s
  | .cmd => issue v s
  | .status => writeStatus v s
  | .keyLen => putKeyLen v s
  | .ivLen => putIvLen v s
  | .gfOps => putGfOps v s
  | .gfRes => s
  | .info => s
  | .key i => putKeyWord i v s
  | .iv k => putIvWord k v s
  | .fb _ => s
  | .state k => putStateWord k v s
  | .din k => putDinWord k v s
  | .dout _ => s
  | .ks _ => s

/-! ### Completion and errors -/

/-- The word the engine executes: PEND (R341). -/
def fetchWord (s : State) : Word := s.pend

/-- Completion with a code: STATUS by R304, and PEND is undefined from here on (R46; log entry 2). -/
def complete (code : ErrCode) (s : State) : State :=
  { completionFlags code s with pend := Config.undefinedPend s.draws, draws := s.draws + 1 }

/-- The command succeeds: its effect is `s`, the state with the command rule's writes applied (R341). -/
def finish (s : State) : Host.Outcome State Fault Refusal := .next (complete .none s)

/-- `raise Error(CODE)`: "no other state of the command is written, and completion is signalled" (R15, R301). -/
def raiseError (code : ErrCode) (s : State) : Host.Outcome State Fault Refusal := .next (complete code s)

/-- A command with its checks in order and the state its effect leaves (R302, R341): the first check that
fails is reported and the effect does not happen. -/
def runChecked (checks : List ErrCode) (effect s : State) : Host.Outcome State Fault Refusal :=
  if firstError checks = .none then finish effect else raiseError (firstError checks) s

/-! ### What the command rules write (R50) -/

/-- `R.STATE <- b`. -/
def putState (b : Block) (s : State) : State := { s with stateReg := b }

/-- `R.GF_RES <- zext_32(v)`. -/
def putGfRes (v : Byte) (s : State) : State := { s with gfRes := v }

/-- The writes of KEY_EXPAND (R211). -/
def putSchedule (ksz : Nat) (ks : Vector Col 60) (s : State) : State :=
  { s with
    ks := ks
    nk := BitVec.ofNat 4 (nkOf ksz)
    nr := BitVec.ofNat 4 (nrOf ksz)
    ksValid := true
    modeValid := false }

/-- The writes of MODE_INIT (R232). -/
def putTransform (mode : BlockMode) (dir : Direction) (fb : Block) (s : State) : State :=
  { s with modeR := mode, dirR := dir, fb := fb, modeValid := true }

/-- `R.DOUT <- d`, `R.OUT_LEN <- n` and the new feedback register (R238, R241). -/
def putOutput (d : Block) (n : Nat) (fb : Block) (s : State) : State :=
  { s with dout := d, outLen := BitVec.ofNat 5 n, fb := fb }

/-- The writes of ZEROIZE (R281): CTRL, KEY_LEN, IV_LEN, OVR and DONE keep their values. -/
def clearData (s : State) : State :=
  { s with
    key := Vector.replicate 8 Col.zero
    iv := Block.zero
    fb := Block.zero
    stateReg := Block.zero
    din := Block.zero
    dout := Block.zero
    ks := Vector.replicate 60 Col.zero
    gfA := 0
    gfB := 0
    gfRes := 0
    nk := 0
    nr := 0
    modeR := .ecb
    dirR := .encrypt
    ksValid := false
    modeValid := false
    outLen := 0 }

/-! ### Reset -/

/-- The reset event: "It aborts any command in flight with none of its effects. It sets every register to
its reset value" (R340). PEND is undefined after it (R51; log entry 2). The host's later accesses `rest`
still wait, and the count of draws goes on, so that free values stay fresh (log entries 5 and 8). -/
def hardReset (rest : List HostEvent) (s : State) : State :=
  { State.reset with pend := Config.undefinedPend s.draws, draws := s.draws + 1, host := rest }

end Sys2Proof.Machine
end

