-- ==== Sys2Proof/Machine/Bus.lean ====
section
/-!
DEFINITION. The bus side: which accesses are served (R84), what a read and a write do with BUSY = 0 and
with BUSY = 1 (R85 to R89), the host's turn, and the placement of the window at AES_BASE (R80, R81).
-/
namespace Sys2Proof.Machine

/-- "The only access AES_CORE serves is a 32-bit access at an offset that is a multiple of 4" (R84). -/
def served (width : AccessWidth) (off : BitVec 12) : Bool := width == .word && off.toNat % 4 == 0

/-- The bus answers the host. -/
def respond (r : BusResponse) (s : State) : State := { s with response := r }

/-- A free value has been drawn. -/
def drawn (s : State) : State := { s with draws := s.draws + 1 }

/-- `STATUS.OVR <- 1` (R86). -/
def overrun (s : State) : State := { s with ovr := true }

/-- A served read while BUSY = 0: the register, or 0 at an unassigned offset (R85, R88). -/
def readIdle (off : BitVec 12) (s : State) : State :=
  match regAt off with
  | some r => respond (.data (readReg s r)) s
  | none => respond (.data 0) s

/-- A served read while BUSY = 1: STATUS as it is, 0 at an unassigned offset, a fresh free value from any
other register (R87; log entry 3). -/
def readBusy (off : BitVec 12) (s : State) : State :=
  match regAt off with
  | some .status => respond (.data (statusWord s)) s
  | some _ => respond (.data (Config.busyReadValue s.draws)) (drawn s)
  | none => respond (.data 0) s

/-- A bus read. A refused one returns no data and changes nothing (R84; log entry 6). -/
def busRead (off : BitVec 12) (width : AccessWidth) (s : State) : State :=
  if served width off then (if s.busy then readBusy off s else readIdle off s) else respond .busError s

/-- A served write while BUSY = 0: into the register, ignored at an unassigned offset (R85, R89). -/
def writeIdle (off : BitVec 12) (v : Word) (s : State) : State :=
  match regAt off with
  | some r => respond .ack (writeReg r v s)
  | none => respond .ack s

/-- A served write while BUSY = 1: "A dropped write changes no register and does not queue a command. It
sets `STATUS.OVR <- 1` at once" (R86; its bus answer is log entry 7). -/
def writeBusy (s : State) : State := respond .ack (overrun s)

/-- A bus write. A refused one changes nothing (R84; log entry 6). -/
def busWrite (off : BitVec 12) (width : AccessWidth) (v : Word) (s : State) : State :=
  if served width off then (if s.busy then writeBusy s else writeIdle off v s) else respond .busError s

/-- The host has had its turn: `rest` is what still waits, and one slot of the latency of the command in
flight has passed (R11; log entry 4). -/
def nextSlot (rest : List HostEvent) (s : State) : State := { s with host := rest, delay := s.delay - 1 }

/-- The host's turn takes the oldest event off the list (R91); with none waiting the slot is empty. A `wait`
whose STATUS read shows BUSY = 1 stays, to read again at the next turn (R119; log entry 15). -/
def hostTurn (s : State) : State :=
  match s.host with
  | [] => nextSlot [] s
  | .read off width :: rest => busRead off width (nextSlot rest s)
  | .write off width v :: rest => busWrite off width v (nextSlot rest s)
  | .wait :: rest => busRead 0x008 .word (nextSlot (if s.busy then .wait :: rest else rest) s)
  | .reset :: rest => hardReset rest s
  | .idle :: rest => nextSlot rest s

/-- An access at a host address: inside `AES_BASE .. AES_BASE + 4095` it is an access at its offset, and any
other address does not reach this block (R80, R81; log entry 9). -/
def deliver (address : Nat) (access : BitVec 12 → HostEvent) : HostEvent :=
  if Config.aesBase ≤ address ∧ address < Config.aesBase + 4096 then
    access (BitVec.ofNat 12 (address - Config.aesBase))
  else .idle

end Sys2Proof.Machine
end

