-- ==== Sys2Proof/Machine/ControlCommands.lean ====
section
/-!
DEFINITION. The control commands NOP and ZEROIZE (44_control.md).
-/
namespace Sys2Proof.Machine

/-- NOP: "(no state written)" beyond its completion (R280). -/
def execNop (s : State) : Host.Outcome State Fault Refusal := finish s

/-- ZEROIZE: every register that can hold key bytes or values derived from them is 0 (R281). -/
def execZeroize (s : State) : Host.Outcome State Fault Refusal := finish (clearData s)

end Sys2Proof.Machine
end

