-- ==== Sys2Proof/Machine/GfCommands.lean ====
section
/-!
DEFINITION. The commands that expose GF2_8_mult and S-box_mem (40_gf_sbox.md).
-/
namespace Sys2Proof.Machine

/-- GF_MUL: `GF_RES <- zext_32(gfMul(a, b))` (R150). -/
def execGfMul (s : State) : Host.Outcome State Fault Refusal := finish (putGfRes (gfMul s.gfA s.gfB) s)

/-- SBOX_FWD: `GF_RES <- zext_32(SBOX[a])` (R151). -/
def execSboxFwd (s : State) : Host.Outcome State Fault Refusal := finish (putGfRes (sbox s.gfA) s)

/-- SBOX_INV: `GF_RES <- zext_32(INV_SBOX[a])` (R152). -/
def execSboxInv (s : State) : Host.Outcome State Fault Refusal := finish (putGfRes (invSbox s.gfA) s)

end Sys2Proof.Machine
end

