-- ==== Sys2Proof/Machine/KeyCommands.lean ====
section
/-!
DEFINITION. The command of the key schedule (42_key_schedule.md).
-/
namespace Sys2Proof.Machine

/-- KEY_EXPAND: the length check, then the schedule of KEY0-7 for the requested size into KS0-59 and INFO;
it ends any transform instance (R211). -/
def execKeyExpand (s : State) : Host.Outcome State Fault Refusal :=
  runChecked [keyLengthCheck s]
    (putSchedule (keySizeOperand s) (keySchedule (keySizeOperand s) s.key) s) s

end Sys2Proof.Machine
end

