-- ==== Sys2Proof/Machine/ModeCommands.lean ====
section
/-!
DEFINITION. The commands of the block-mode engine (43_block_modes.md).
-/
namespace Sys2Proof.Machine

/-- The feedback register a new instance starts with: `if CTRL.MODE == 0 then 0^16 else IV[0..15]` (R232). -/
def initialFeedback (s : State) : Block := if s.ctrlMode = 0 then Block.zero else s.iv

/-- MODE_INIT (R232). -/
def execModeInit (s : State) : Host.Outcome State Fault Refusal :=
  runChecked [scheduleCheck s, modeCheck s, ivLengthCheck s]
    (putTransform (selectedMode s) s.ctrlDir (initialFeedback s) s) s

/-- PROCESS_BLOCK: `R.DOUT <- ModeBlock(DIN)`, `R.OUT_LEN <- 16` (R238). -/
def execProcessBlock (s : State) : Host.Outcome State Fault Refusal :=
  runChecked [scheduleCheck s, transformCheck s]
    (putOutput (modeStep s s.din).1 16 (modeStep s s.din).2 s) s

/-- The effect of FINALIZE on `n` bytes (R241): nothing for an empty chunk, the padded block on encrypt, the
block stripped of its padding on decrypt. DESIGN CHOICE: DIR_R tells the two apart in every mode, as R241 writes
it, although R232 says no rule reads it for OFB and CTR (log entry 20). -/
def finalizeEffect (n : Nat) (s : State) : State :=
  if n = 0 then putOutput Block.zero 0 s.fb s
  else match s.dirR with
    | .encrypt => putOutput (modeStep s (padBlock s.din n)).1 16 (modeStep s (padBlock s.din n)).2 s
    | .decrypt =>
      putOutput (keepBytes (modeStep s s.din).1 (stripLen (modeStep s s.din).1))
        (stripLen (modeStep s s.din).1) (modeStep s s.din).2 s

/-- FINALIZE (R241). -/
def execFinalize (cnt : Nat) (s : State) : Host.Outcome State Fault Refusal :=
  runChecked [scheduleCheck s, transformCheck s, chunkSizeCheck cnt, chunkWholeCheck cnt s] (finalizeEffect cnt s) s

end Sys2Proof.Machine
end

