-- ==== Sys2Proof/Machine/RoundCommands.lean ====
section
/-!
DEFINITION. The commands of the round engine (41_round_engine.md). All work on STATE; the keyed ones read
the schedule and INFO.NR.
-/
namespace Sys2Proof.Machine

/-- SUB_BYTES (R170). -/
def execSubBytes (s : State) : Host.Outcome State Fault Refusal := finish (putState (subBytes s.stateReg) s)

/-- INV_SUB_BYTES (R171). -/
def execInvSubBytes (s : State) : Host.Outcome State Fault Refusal := finish (putState (invSubBytes s.stateReg) s)

/-- SHIFT_ROWS (R172). -/
def execShiftRows (s : State) : Host.Outcome State Fault Refusal := finish (putState (shiftRows s.stateReg) s)

/-- INV_SHIFT_ROWS (R173). -/
def execInvShiftRows (s : State) : Host.Outcome State Fault Refusal := finish (putState (invShiftRows s.stateReg) s)

/-- MIX_COLUMNS (R174). -/
def execMixColumns (s : State) : Host.Outcome State Fault Refusal := finish (putState (mixColumns s.stateReg) s)

/-- INV_MIX_COLUMNS (R175). -/
def execInvMixColumns (s : State) : Host.Outcome State Fault Refusal :=
  finish (putState (invMixColumns s.stateReg) s)

/-- A command with a round index: its preconditions in order (R176), then `R.STATE <- b`. -/
def runRound (rnd : Nat) (b : Block) (s : State) : Host.Outcome State Fault Refusal :=
  runChecked [scheduleCheck s, roundCheck rnd s] (putState b s) s

/-- ADD_ROUND_KEY (R176). -/
def execAddRoundKey (rnd : Nat) (s : State) : Host.Outcome State Fault Refusal :=
  runRound rnd (addRoundKey s.ks s.stateReg rnd) s

/-- ENC_ROUND (R177). -/
def execEncRound (rnd : Nat) (s : State) : Host.Outcome State Fault Refusal :=
  runRound rnd (encRound s.ks (roundCount s) s.stateReg rnd) s

/-- DEC_ROUND (R178). -/
def execDecRound (rnd : Nat) (s : State) : Host.Outcome State Fault Refusal :=
  runRound rnd (decRound s.ks (roundCount s) s.stateReg rnd) s

/-- ENCRYPT_BLOCK: `STATE <- E_KS(S)` (R180). -/
def execEncryptBlock (s : State) : Host.Outcome State Fault Refusal :=
  runChecked [scheduleCheck s] (putState (encryptBlock s.ks (roundCount s) s.stateReg) s) s

/-- DECRYPT_BLOCK: `STATE <- D_KS(S)` (R181). -/
def execDecryptBlock (s : State) : Host.Outcome State Fault Refusal :=
  runChecked [scheduleCheck s] (putState (decryptBlock s.ks (roundCount s) s.stateReg) s) s

end Sys2Proof.Machine
end

