-- ==== Sys2Proof/Machine/Dispatch.lean ====
section
/-! DEFINITION. The one dispatch from a command to its meaning: `Execute` of R341, its completion included. -/
namespace Sys2Proof.Machine

def exec (i : Instr) (s : State) : Host.Outcome State Fault Refusal :=
  match i with
  | .nop => Sys2Proof.Machine.execNop s
  | .subBytes => Sys2Proof.Machine.execSubBytes s
  | .invSubBytes => Sys2Proof.Machine.execInvSubBytes s
  | .shiftRows => Sys2Proof.Machine.execShiftRows s
  | .invShiftRows => Sys2Proof.Machine.execInvShiftRows s
  | .mixColumns => Sys2Proof.Machine.execMixColumns s
  | .invMixColumns => Sys2Proof.Machine.execInvMixColumns s
  | .addRoundKey rnd => Sys2Proof.Machine.execAddRoundKey rnd s
  | .encRound rnd => Sys2Proof.Machine.execEncRound rnd s
  | .decRound rnd => Sys2Proof.Machine.execDecRound rnd s
  | .encryptBlock => Sys2Proof.Machine.execEncryptBlock s
  | .decryptBlock => Sys2Proof.Machine.execDecryptBlock s
  | .keyExpand => Sys2Proof.Machine.execKeyExpand s
  | .gfMul => Sys2Proof.Machine.execGfMul s
  | .sboxFwd => Sys2Proof.Machine.execSboxFwd s
  | .sboxInv => Sys2Proof.Machine.execSboxInv s
  | .modeInit => Sys2Proof.Machine.execModeInit s
  | .processBlock => Sys2Proof.Machine.execProcessBlock s
  | .finalize cnt => Sys2Proof.Machine.execFinalize cnt s
  | .zeroize => Sys2Proof.Machine.execZeroize s

end Sys2Proof.Machine
end

