-- ==== Sys2Proof/Machine/Step.lean ====
section
/-!
DEFINITION. One step of the machine: the engine completes the command in flight, or the host has its turn
(R6, R91, R92, R341).
-/
namespace Sys2Proof.Machine

/-- Whether the host asserts reset now (R340). -/
def resetAsserted (s : State) : Bool := s.host.head? == some .reset

/-- Whether this step is the completion step: BUSY = 1, the latency has passed, and no reset aborts the
command (R340, R341; log entries 4 and 8). -/
def completionDue (s : State) : Bool := s.busy && s.delay == 0 && !resetAsserted s

/-- Completion: `code <- Execute(PEND)` (R341). A word that is no row of R115 raises ILLEGAL_COMMAND (R116). -/
def completionStep (s : State) : Host.Outcome State Fault Refusal :=
  match decode (fetchWord s) with
  | .command i => exec i s
  | .illegal _ => raiseError .illegalCommand s

/-- One step. With nothing in flight and nothing waiting, it leaves the state as it is but for the slot count. -/
def step (s : State) : Host.Outcome State Fault Refusal :=
  if completionDue s then completionStep s else .next (hostTurn s)

/-- The state with the command word `w` issued and its latency passed, so that the next step is its
completion: PEND holds the word, BUSY is 1, no slot is left, and no reset is asserted before it (log
entries 5 and 16). -/
def State.withFetchWord (s : State) (nbits w : Nat) : State :=
  { s with
    pend := BitVec.ofNat 32 (w % 2 ^ nbits)
    busy := true
    delay := 0
    host := s.host.dropWhile (· == .reset) }

end Sys2Proof.Machine
end

