-- ==== Sys2Proof/Machine/HostAsm.lean ====
section
/-!
DEFINITION. The host assembly: its statements and pseudo-instructions as host events (R118, R119), and the
end of a host program (R347).
-/
namespace Sys2Proof.Machine

/-- `wr OFF, VAL` at a register (R118): one aligned 32-bit write. -/
def asmWr (r : Reg) (v : Word) : HostEvent := .write (BitVec.ofNat 12 (regOffset r)) .word v

/-- `rd OFF` at a register (R118): one aligned 32-bit read. -/
def asmRd (r : Reg) : HostEvent := .read (BitVec.ofNat 12 (regOffset r)) .word

/-- `cmd MNEMONIC`, `cmd ADD_ROUND_KEY n`, `cmd FINALIZE n`, ...: the write of the command's word to CMD (R119). -/
def asmCmd (i : Instr) : HostEvent := asmWr .cmd (encode i)

/-- `ack`: `wr STATUS, 0x18` (R119). -/
def asmAck : HostEvent := asmWr .status 0x18

/-- `ld16 REG0, HEX32`: four writes `wr REG0+4k, LE32(b[4k..4k+3])` (R119). `reg k` is the register at
`REG0+4k`. -/
def asmLd16 (reg : Fin 4 → Reg) (b : Block) : List HostEvent :=
  (List.finRange 4).map fun k => asmWr (reg k) (le32 (blockCol b k))

/-- `ld32 KEY0, HEX64`: "eight writes of the 32-byte key, as `ld16`" (R119), its two halves given as blocks. -/
def asmLd32 (lo hi : Block) : List HostEvent :=
  asmLd16 (fun k => .key ⟨k.val, Nat.lt_trans k.isLt (by decide)⟩) lo
    ++ asmLd16 (fun k => .key ⟨k.val + 4, Nat.add_lt_add_right k.isLt 4⟩) hi

/-- "The canonical program form is `cmd X` followed by `wait`" (R119). -/
def asmCmdWait (i : Instr) : List HostEvent := [asmCmd i, .wait]

/-- "A program ends after its last statement has been served and, if that statement is a `wait`, once it has
observed BUSY = 0" (R347): nothing waits at the host. -/
def programEnded (s : State) : Bool := s.host.isEmpty

end Sys2Proof.Machine
end

