-- ==== Sys2Proof/Safety.lean ====
section
/-!
DEFINITION. The terms claims use: how a command completes and what it leaves alone, the invariant of the
register file, host programs that respect the BUSY rule, and streams of blocks run on the machine.
-/
namespace Sys2Proof

open Sys2Proof.Machine

/-! ### How a command ends -/

/-- The STATUS writes of every completion: ERR, DONE <- 1, BUSY <- 0 (R304). -/
def Completed (code : ErrCode) (t : State) : Prop := t.err = code ∧ t.doneFlag = true ∧ t.busy = false

/-- Every register of the window that is not written reads as before. STATUS is spoken of field by field. -/
def KeepsRegs (written : Reg → Bool) (s t : State) : Prop := ∀ r, written r = false → readReg t r = readReg s r

/-- The flags no completion writes by itself (R49): OVR, KS_VALID, MODE_VALID, OUT_LEN. -/
def KeepsFlags (s t : State) : Prop :=
  t.ovr = s.ovr ∧ t.ksValid = s.ksValid ∧ t.modeValid = s.modeValid ∧ t.outLen = s.outLen

/-- The host's side of the interface is as before: its waiting accesses, the last bus answer, the slot count. -/
def KeepsHostSide (s t : State) : Prop := t.host = s.host ∧ t.response = s.response ∧ t.delay = s.delay

/-- No register but STATUS. -/
def statusOnly : Reg → Bool
  | .status => true
  | _ => false

/-- STATE and STATUS. -/
def stateAndStatus : Reg → Bool
  | .status => true
  | .state _ => true
  | _ => false

/-- GF_RES and STATUS. -/
def gfResAndStatus : Reg → Bool
  | .status => true
  | .gfRes => true
  | _ => false

/-- KS0-KS59, INFO and STATUS. -/
def scheduleAndStatus : Reg → Bool
  | .status => true
  | .info => true
  | .ks _ => true
  | _ => false

/-- FB0-FB3, INFO and STATUS. -/
def transformAndStatus : Reg → Bool
  | .status => true
  | .info => true
  | .fb _ => true
  | _ => false

/-- DOUT0-DOUT3, FB0-FB3 and STATUS. -/
def outputAndStatus : Reg → Bool
  | .status => true
  | .dout _ => true
  | .fb _ => true
  | _ => false

/-- The registers ZEROIZE writes, and STATUS: all but CTRL, CMD, KEY_LEN and IV_LEN (R281). -/
def dataAndStatus : Reg → Bool
  | .ctrl => false
  | .cmd => false
  | .keyLen => false
  | .ivLen => false
  | _ => true

/-- A command runs, and its error is its only effect: STATUS.ERR, DONE and BUSY (R301). -/
def FailsWith (code : ErrCode) (i : Instr) (s : State) : Prop :=
  ∃ t, exec i s = .next t ∧ Completed code t ∧ KeepsRegs statusOnly s t ∧ KeepsFlags s t ∧ KeepsHostSide s t

/-- The word is a command's one spelling. -/
def Spells (c : Word) (i : Instr) : Prop := encode i = c ∧ decode c = .command i

/-! ### The registers between steps -/

/-- What holds of the registers in every reachable state. -/
structure RegisterInv (s : State) : Prop where
  /-- "`NR = NK + 6` whenever KS_VALID = 1", for the three key sizes (R9, R38). -/
  sizes : s.ksValid = true → (s.nk = 4 ∧ s.nr = 10) ∨ (s.nk = 6 ∧ s.nr = 12) ∨ (s.nk = 8 ∧ s.nr = 14)
  /-- Without a schedule INFO is 0 (R38). -/
  noInfo : s.ksValid = false → s.nk = 0 ∧ s.nr = 0 ∧ s.modeR = .ecb ∧ s.dirR = .encrypt
  /-- Without a schedule there is no schedule material (R281, R340). -/
  noMaterial : s.ksValid = false → ∀ i : Fin 60, s.ks[i] = Col.zero
  /-- "Words `i >= 4·(NR+1)` are 0 after a KEY_EXPAND" (R45). -/
  unusedWords : ∀ i : Fin 60, 4 * (s.nr.toNat + 1) ≤ i.val → s.ks[i] = Col.zero
  /-- A transform instance has a schedule (R230, R232). -/
  transform : s.modeValid = true → s.ksValid = true
  /-- OUT_LEN is 0..16 (R33). -/
  outLen : s.outLen.toNat ≤ 16
  /-- "Bytes `DOUT[OUT_LEN..15]` are 0" (R44). -/
  outTail : ∀ k, s.outLen.toNat ≤ k → k < 16 → blockByte s.dout k = 0
  /-- "ECB: unused. FB = 0 after MODE_INIT" (R41). -/
  ecbFeedback : s.modeR = .ecb → s.fb = Block.zero

/-- "1 when KS0-KS59 and INFO.NK/NR hold a schedule expanded by KEY_EXPAND" (R33): the schedule is that of
some key of one of the three sizes. -/
def HoldsExpandedSchedule (s : State) : Prop :=
  s.ksValid = true → ∃ ksz key, ksz ≤ 2 ∧ s.ks = keySchedule ksz key ∧
    s.nk.toNat = nkOf ksz ∧ s.nr.toNat = nrOf ksz

/-! ### Host programs -/

/-- A host event that issues a command when BUSY = 0: a served write at the offset of CMD (R341). -/
def issuesCommand : HostEvent → Bool
  | .write off width _ => served width off && off.toNat == regOffset .cmd
  | _ => false

/-- "The canonical program form is `cmd X` followed by `wait` before any other access" (R119). -/
def canonicalProgram : List HostEvent → Bool
  | [] => true
  | ev :: rest => (!issuesCommand ev || rest.head? == some .wait) && canonicalProgram rest

/-- A host that respects the BUSY hazard (R343): while a command is in flight its next event is the `wait`. -/
def RespectsBusy (s : State) : Prop :=
  canonicalProgram s.host = true ∧ (s.busy = true → s.host.head? = some .wait)

/-! ### Streams -/

/-- PROCESS_BLOCK on each block of a stream in order, the host loading DIN before each (R244): the output
blocks and the last state, or nothing if some command ends in an error. -/
def processStream (s : State) : List Block → Option (List Block × State)
  | [] => some ([], s)
  | x :: xs =>
    match exec .processBlock { s with din := x } with
    | .next t => if t.err = .none then (processStream t xs).map fun (ys, u) => (t.dout :: ys, u) else none
    | .fault _ => none
    | .refused _ => none

/-- Two states that hold the two ends of one stream: the same schedule, mode and feedback, one encrypting
and one decrypting (R230). -/
structure MatchingEnds (s t : State) : Prop where
  encrypts : s.dirR = .encrypt
  decrypts : t.dirR = .decrypt
  scheduleL : s.ksValid = true
  scheduleR : t.ksValid = true
  transformL : s.modeValid = true
  transformR : t.modeValid = true
  sameSchedule : t.ks = s.ks
  sameRounds : t.nr = s.nr
  sameMode : t.modeR = s.modeR
  sameFeedback : t.fb = s.fb

end Sys2Proof
end

