-- ==== Sys2Proof/Certificates/Slice0/Obligations.lean ====
section
/-!
DEFINITION. The statements for the provers. Each docstring names the rule of the spec it formalises.
-/
open Sys2Proof Sys2Proof.Machine

/-! ### Encoding -/

/-- R110, R112, R115: decoding the word of any command that fits its fields gives the command back, with
every operand at every value the encoding admits. -/
def Obligations.DecodeOfEncodeIsTheCommand : Prop :=
  ∀ i : Instr, i.wellFormed = true → decode (encode i) = .command i

/-- R112: "each command has exactly one spelling per operand value". Whatever word decodes to a command, its
operands fit and the word is that command's encoding. -/
def Obligations.DecodedWordIsTheOnlySpelling : Prop :=
  ∀ (c : Word) (i : Instr), decode c = .command i → i.wellFormed = true ∧ encode i = c

/-- R110, R115, R116: words written out from the tables, for each family and for the illegal encodings. -/
def Obligations.SpecWordsDecodeToTheirCommands : Prop :=
  decode 0b00000000000000000000000000000000#32 = .command .nop ∧
  decode 0b00000000000000000000000000000001#32 = .command .subBytes ∧
  decode 0b00000000000000000000101000000111#32 = .command (.addRoundKey 10) ∧
  decode 0b00000000000000000000000100001000#32 = .command (.encRound 1) ∧
  decode 0b00000000000000000000100100001001#32 = .command (.decRound 9) ∧
  decode 0b00000000000000000000000000010000#32 = .command .keyExpand ∧
  decode 0b00000000000000000000000000010001#32 = .command .gfMul ∧
  decode 0b00000000000100010000000000011010#32 = .command (.finalize 17) ∧
  decode 0b00000000000000000000000000011111#32 = .command .zeroize ∧
  decode 0b00000000000000000000000000001100#32 = .illegal .reservedOpcode ∧
  decode 0b00000000000000000000000100000000#32 = .illegal .strayBits ∧
  decode 0b00000000001000000000000000011010#32 = .illegal .strayBits

/-- R116 and R112: which words are illegal. Reserved opcodes 0x0C-0x0F, 0x14-0x17, 0x1B-0x1E and 0x20-0x3F;
and a defined opcode with a bit set outside its own fields (RND for 0x07-0x09, CNT for 0x1A). -/
def Obligations.IllegalWordsAreTheReservedOnes : Prop :=
  ∀ c : Word,
    let op := (opField c).toNat
    let reserved := (0x0C ≤ op ∧ op ≤ 0x0F) ∨ (0x14 ≤ op ∧ op ≤ 0x17) ∨ (0x1B ≤ op ∧ op ≤ 0x1E) ∨ 0x20 ≤ op
    let fields : Word := if 0x07 ≤ op ∧ op ≤ 0x09 then 0x00000F3F else if op = 0x1A then 0x001F003F else 0x0000003F
    (decode c = .illegal .reservedOpcode ↔ reserved) ∧
    (decode c = .illegal .strayBits ↔ ¬ reserved ∧ c &&& ~~~fields ≠ 0)

/-- R116, R301, R304: "An ILLEGAL_COMMAND completes like any command": at the completion of an illegal word
ERR is 6, DONE is 1, BUSY is 0 and nothing else is written. -/
def Obligations.IllegalWordCompletesWithoutEffect : Prop :=
  ∀ (s : State) (why : IllegalReason), completionDue s = true → decode s.pend = .illegal why →
    ∃ t, step s = .next t ∧ Completed .illegalCommand t ∧ (readReg t .status).extractLsb' 8 4 = 6#4 ∧
      KeepsRegs statusOnly s t ∧ KeepsFlags s t ∧ KeepsHostSide s t

/-! ### The step -/

/-- R341 (2), R115, R340: when a command is in flight, its latency has passed and no reset is asserted, the
step is the command PEND decodes to (an illegal word raises ILLEGAL_COMMAND); otherwise the step is the
host's turn. The state with a command word placed runs exactly that command next. -/
def Obligations.StepRunsThePendingCommand : Prop :=
  (∀ (s : State) (i : Instr), s.busy = true → s.delay = 0 → s.host.head? ≠ some .reset →
    decode s.pend = .command i → step s = exec i s) ∧
  (∀ (s : State) (why : IllegalReason), s.busy = true → s.delay = 0 → s.host.head? ≠ some .reset →
    decode s.pend = .illegal why → step s = raiseError .illegalCommand s) ∧
  (∀ s : State, s.busy = false ∨ s.delay ≠ 0 ∨ s.host.head? = some .reset → step s = .next (hostTurn s)) ∧
  (∀ (s : State) (c : Word) (i : Instr), decode c = .command i →
    step (s.withFetchWord 32 c.toNat) = exec i (s.withFetchWord 32 c.toNat))

/-- R341 (1), R89: a write of a word to CMD while BUSY = 0 latches it and sets BUSY; nothing else changes, and
at least one slot passes before the command can complete (R11). -/
def Obligations.CmdWriteIssuesTheCommand : Prop :=
  ∀ (s : State) (c : Word) (rest : List HostEvent), s.busy = false → s.host = .write 0x004 .word c :: rest →
    ∃ t, step s = .next t ∧ t.pend = c ∧ t.busy = true ∧ 1 ≤ t.delay ∧ t.host = rest ∧ t.response = .ack ∧
      KeepsRegs statusOnly s t ∧ KeepsFlags s t ∧ t.err = s.err ∧ t.doneFlag = s.doneFlag

/-- R341, R346: "No command can hang". A command in flight completes, or a reset aborts it, within the slots
its latency left; the bound is the model's slot count (log entry 4). -/
def Obligations.CommandInFlightEnds : Prop :=
  ∀ s : State, s.busy = true →
    ∃ k t, k ≤ s.delay + 1 ∧ Host.Core.run Sys2Proof.core k s = .next t ∧ t.busy = false

/-- From every state there is a next state. No error traps (R303) and no command hangs (R341); that a refused bus
access is an answer after which the machine goes on, where R84 says a model treats it as a fault of the host access,
is the model's choice (log entry 6). -/
def Obligations.EveryStepHasANextState : Prop := ∀ s : State, ∃ t, step s = .next t

/-- R340, R51: a reset, asserted at any time and also while BUSY = 1, aborts the command in flight and leaves
every register reading 0 and the interrupt line low; the host's later accesses are served from there. The
same registers are what the machine starts with. -/
def Obligations.ResetClearsEveryRegister : Prop :=
  (∀ (s : State) (rest : List HostEvent), s.host = .reset :: rest →
    ∃ t, step s = .next t ∧ (∀ r, readReg t r = 0) ∧ t.busy = false ∧ irq t = false ∧ t.host = rest) ∧
  (∀ r, readReg State.reset r = 0) ∧ State.reset.busy = false ∧ irq State.reset = false

/-! ### The bus -/

/-- R31, R80, R85: the address map. The offsets are the numbers of R31's table; every register is found at its
offset and at no other, offsets are aligned and inside the window; an access at a host address reaches the
block at its offset from AES_BASE exactly inside the window (R81). -/
def Obligations.AddressMapIsOneToOne : Prop :=
  (regOffset .ctrl = 0x000 ∧ regOffset .cmd = 0x004 ∧ regOffset .status = 0x008 ∧ regOffset .keyLen = 0x00C ∧
    regOffset .ivLen = 0x010 ∧ regOffset .gfOps = 0x014 ∧ regOffset .gfRes = 0x018 ∧ regOffset .info = 0x01C ∧
    (∀ i : Fin 8, regOffset (.key i) = 0x020 + 4 * i.val) ∧ (∀ k : Fin 4, regOffset (.iv k) = 0x040 + 4 * k.val) ∧
    (∀ k : Fin 4, regOffset (.fb k) = 0x050 + 4 * k.val) ∧ (∀ k : Fin 4, regOffset (.state k) = 0x060 + 4 * k.val) ∧
    (∀ k : Fin 4, regOffset (.din k) = 0x070 + 4 * k.val) ∧ (∀ k : Fin 4, regOffset (.dout k) = 0x080 + 4 * k.val) ∧
    (∀ i : Fin 60, regOffset (.ks i) = 0x100 + 4 * i.val)) ∧
  (∀ r : Reg, regAt (BitVec.ofNat 12 (regOffset r)) = some r ∧ regOffset r % 4 = 0 ∧ regOffset r < 4096) ∧
  (∀ (off : BitVec 12) (r : Reg), regAt off = some r → off.toNat = regOffset r) ∧
  (∀ (off : BitVec 12) (access : BitVec 12 → HostEvent), deliver (Config.aesBase + off.toNat) access = access off) ∧
  (∀ (address : Nat) (access : BitVec 12 → HostEvent),
    address < Config.aesBase ∨ Config.aesBase + 4096 ≤ address → deliver address access = .idle) ∧
  Config.aesBase % 4096 = 0

/-- R84: an 8-bit, 16-bit or misaligned access or a wider burst gets a bus error and has no other effect,
busy or not; an aligned 32-bit access is not refused. That the machine goes on after a bus error is log entry 6's;
that a write dropped because BUSY = 1, whose answer R86 leaves open, is not answered with one is the model's choice
(log entry 7). -/
def Obligations.RefusedAccessHasNoEffect : Prop :=
  ∀ (s : State) (off : BitVec 12) (width : AccessWidth) (v : Word) (ev : HostEvent) (rest : List HostEvent),
    ev = .read off width ∨ ev = .write off width v → s.host = ev :: rest → completionDue s = false →
    ∃ t, step s = .next t ∧ t.host = rest ∧
      (width ≠ .word ∨ off.toNat % 4 ≠ 0 →
        t.response = .busError ∧ (∀ r, readReg t r = readReg s r) ∧ t.ovr = s.ovr ∧ t.busy = s.busy ∧ t.pend = s.pend) ∧
      (width = .word → off.toNat % 4 = 0 → t.response ≠ .busError)

/-- R85, R30: with BUSY = 0, an aligned word access to an offset that R31 does not assign reads 0 and ignores
writes; the read-only registers ignore writes, and CMD reads as 0. -/
def Obligations.UnassignedAndReadOnlyIgnoreWrites : Prop :=
  ∀ (s : State) (off : BitVec 12) (v : Word) (rest : List HostEvent), s.busy = false → off.toNat % 4 = 0 →
    (s.host = .read off .word :: rest → (∀ r, regOffset r ≠ off.toNat) ∨ off = 0x004 →
      ∃ t, step s = .next t ∧ t.response = .data 0 ∧ ∀ r, readReg t r = readReg s r) ∧
    (s.host = .write off .word v :: rest →
      (∀ r, regOffset r = off.toNat →
        r = .gfRes ∨ r = .info ∨ (∃ k, r = .fb k) ∨ (∃ k, r = .dout k) ∨ ∃ i, r = .ks i) →
      ∃ t, step s = .next t ∧ t.response = .ack ∧ t.busy = false ∧ ∀ r, readReg t r = readReg s r)

/-- R86: "A host write to any offset while `STATUS.BUSY = 1` is dropped." It changes no register, queues no
command and sets OVR. -/
def Obligations.WriteWhileBusyIsDropped : Prop :=
  ∀ (s : State) (off : BitVec 12) (v : Word) (rest : List HostEvent),
    s.busy = true → s.delay ≠ 0 → off.toNat % 4 = 0 → s.host = .write off .word v :: rest →
    ∃ t, step s = .next t ∧ t.ovr = true ∧ t.busy = true ∧ t.pend = s.pend ∧ t.host = rest ∧
      KeepsRegs statusOnly s t ∧ t.ksValid = s.ksValid ∧ t.modeValid = s.modeValid ∧ t.doneFlag = s.doneFlag ∧
      t.err = s.err ∧ t.outLen = s.outLen

/-- R87: a read while BUSY = 1 has no side effect; STATUS is current, an unassigned offset gives 0, any other
register a free value, drawn afresh. The value is the opaque constant `Config.busyReadValue` at the draw
count, of which nothing can be proved (log entry 3). -/
def Obligations.ReadWhileBusyIsUnspecified : Prop :=
  ∀ (s : State) (off : BitVec 12) (rest : List HostEvent),
    s.busy = true → s.delay ≠ 0 → off.toNat % 4 = 0 → s.host = .read off .word :: rest →
    ∃ t, step s = .next t ∧ (∀ r, readReg t r = readReg s r) ∧ t.pend = s.pend ∧ t.host = rest ∧
      (off.toNat = regOffset .status → t.response = .data (readReg s .status)) ∧
      ((∀ r, regOffset r ≠ off.toNat) → t.response = .data 0) ∧
      (∀ r, r ≠ .status → regOffset r = off.toNat →
        t.response = .data (Config.busyReadValue s.draws) ∧ t.draws = s.draws + 1)

/-- R88: "No register changes when it is read, and reading any register any number of times returns the same
value". With BUSY = 0, however many reads of a register stand in a row, the last one returns what the register
held before the first, and no register has changed. -/
def Obligations.ReadsHaveNoSideEffect : Prop :=
  ∀ (s : State) (r : Reg) (n : Nat) (rest : List HostEvent), s.busy = false →
    s.host = List.replicate (n + 1) (asmRd r) ++ rest →
    ∃ t, Host.Core.run Sys2Proof.core (n + 1) s = .next t ∧ t.response = .data (readReg s r) ∧ t.host = rest ∧
      (∀ q, readReg t q = readReg s q) ∧ t.pend = s.pend ∧ t.busy = false

/-- R30, R32, R34, R35, R36, R39, R40, R42, R43, R90: with BUSY = 0, writing a register other than CMD and
STATUS stores the bits of its fields, reserved bits and read-only registers keep reading as before, and no
other register changes. The fields stand where R32 and R34 to R37 put them, and byte k of an array register is
in word k >> 2 at bits [8(k mod 4)+7 : 8(k mod 4)], as written and as read (R16, R82). -/
def Obligations.WrittenRegisterReadsBack : Prop :=
  (∀ (s : State) (r : Reg) (v : Word) (rest : List HostEvent), s.busy = false → r ≠ .cmd → r ≠ .status →
    s.host = asmWr r v :: rest →
    let mask : Word := match r with
      | .ctrl => 0x13F
      | .keyLen => 0xFF
      | .ivLen => 0xFF
      | .gfOps => 0xFFFF
      | .key _ => 0xFFFFFFFF
      | .iv _ => 0xFFFFFFFF
      | .state _ => 0xFFFFFFFF
      | .din _ => 0xFFFFFFFF
      | _ => 0
    ∃ t, step s = .next t ∧ readReg t r = (v &&& mask) ||| (readReg s r &&& ~~~mask) ∧
      (∀ q, q ≠ r → readReg t q = readReg s q) ∧ t.pend = s.pend ∧ t.host = rest ∧
      (r = .ctrl → t.ctrlMode = v.extractLsb' 0 3 ∧ (t.ctrlDir = .decrypt ↔ v.getLsbD 3 = true) ∧
        t.ctrlKsz = v.extractLsb' 4 2 ∧ t.ctrlIe = v.getLsbD 8) ∧
      (r = .keyLen → t.keyLen = v.extractLsb' 0 8) ∧ (r = .ivLen → t.ivLen = v.extractLsb' 0 8) ∧
      (r = .gfOps → t.gfA = v.extractLsb' 0 8 ∧ t.gfB = v.extractLsb' 8 8) ∧
      (∀ i, r = .key i → ∀ j : Fin 4, colByte t.key[i] j = v.extractLsb' (8 * j.val) 8) ∧
      (∀ k, r = .iv k → ∀ j : Fin 4, blockByte t.iv (4 * k.val + j.val) = v.extractLsb' (8 * j.val) 8) ∧
      (∀ k, r = .state k → ∀ j : Fin 4, blockByte t.stateReg (4 * k.val + j.val) = v.extractLsb' (8 * j.val) 8) ∧
      (∀ k, r = .din k → ∀ j : Fin 4, blockByte t.din (4 * k.val + j.val) = v.extractLsb' (8 * j.val) 8)) ∧
  (∀ s : State,
    ((readReg s .ctrl).extractLsb' 0 3 = s.ctrlMode ∧ ((readReg s .ctrl).getLsbD 3 = true ↔ s.ctrlDir = .decrypt) ∧
      (readReg s .ctrl).extractLsb' 4 2 = s.ctrlKsz ∧ (readReg s .ctrl).getLsbD 8 = s.ctrlIe) ∧
    readReg s .keyLen = s.keyLen.zeroExtend 32 ∧ readReg s .ivLen = s.ivLen.zeroExtend 32 ∧
    (readReg s .gfOps).extractLsb' 0 8 = s.gfA ∧ (readReg s .gfOps).extractLsb' 8 8 = s.gfB ∧
    readReg s .gfRes = s.gfRes.zeroExtend 32 ∧
    (∀ (i : Fin 8) (j : Fin 4), (readReg s (.key i)).extractLsb' (8 * j.val) 8 = colByte s.key[i] j) ∧
    (∀ k j : Fin 4,
      (readReg s (.iv k)).extractLsb' (8 * j.val) 8 = blockByte s.iv (4 * k.val + j.val) ∧
      (readReg s (.fb k)).extractLsb' (8 * j.val) 8 = blockByte s.fb (4 * k.val + j.val) ∧
      (readReg s (.state k)).extractLsb' (8 * j.val) 8 = blockByte s.stateReg (4 * k.val + j.val) ∧
      (readReg s (.din k)).extractLsb' (8 * j.val) 8 = blockByte s.din (4 * k.val + j.val) ∧
      (readReg s (.dout k)).extractLsb' (8 * j.val) 8 = blockByte s.dout (4 * k.val + j.val)))

/-- R33: "A host write to STATUS affects only OVR and DONE": 1 in bit 3 clears OVR, 1 in bit 4 clears DONE. As
read, BUSY, KS_VALID, MODE_VALID, OVR and DONE are bits 0 to 4, OUT_LEN is [20:16], and the reserved bits are 0; the
field ERR is spoken of in FirstFailingCheckIsReported. -/
def Obligations.StatusWriteClearsOnlyOvrAndDone : Prop :=
  (∀ (s : State) (v : Word) (rest : List HostEvent), s.busy = false → s.host = asmWr .status v :: rest →
    ∃ t, step s = .next t ∧ t.busy = false ∧ t.ksValid = s.ksValid ∧ t.modeValid = s.modeValid ∧
      t.err = s.err ∧ t.outLen = s.outLen ∧ KeepsRegs statusOnly s t ∧
      t.ovr = (if v.getLsbD 3 then false else s.ovr) ∧ t.doneFlag = (if v.getLsbD 4 then false else s.doneFlag)) ∧
  (∀ s : State, let w := readReg s .status
    w.getLsbD 0 = s.busy ∧ w.getLsbD 1 = s.ksValid ∧ w.getLsbD 2 = s.modeValid ∧ w.getLsbD 3 = s.ovr ∧
      w.getLsbD 4 = s.doneFlag ∧ w.extractLsb' 5 3 = 0 ∧ w.extractLsb' 12 4 = 0 ∧ w.extractLsb' 16 5 = s.outLen ∧
      w.extractLsb' 21 11 = 0)

/-- R305: `irq = CTRL.IE AND STATUS.DONE`. The line is bit 8 of CTRL and bit 4 of STATUS as read; every
completion, with an error or without, asserts it when IE = 1 and leaves it low when IE = 0; writing 1 to STATUS
bit 4 deasserts it; a write of CTRL makes it follow DONE or fall; a dropped write, which sets OVR, leaves it; it
is low after reset. -/
def Obligations.InterruptLineFollowsEnableAndDone : Prop :=
  (∀ s : State, irq s = ((readReg s .ctrl).getLsbD 8 && (readReg s .status).getLsbD 4)) ∧
  (∀ s : State, completionDue s = true → ∃ t, step s = .next t ∧ irq t = s.ctrlIe) ∧
  (∀ (s : State) (v : Word) (rest : List HostEvent), s.busy = false → s.host = asmWr .status v :: rest →
    ∃ t, step s = .next t ∧ irq t = (irq s && !v.getLsbD 4)) ∧
  (∀ (s : State) (v : Word) (rest : List HostEvent), s.busy = false → s.host = asmWr .ctrl v :: rest →
    ∃ t, step s = .next t ∧ irq t = (v.getLsbD 8 && s.doneFlag)) ∧
  (∀ (s : State) (off : BitVec 12) (v : Word) (rest : List HostEvent), s.busy = true → s.delay ≠ 0 →
    s.host = .write off .word v :: rest → ∃ t, step s = .next t ∧ irq t = irq s) ∧
  irq State.reset = false

/-- R119: `wait` reads STATUS; while the value read has bit 0 set it stays to read again, and once BUSY = 0 is
observed the host's program goes on. -/
def Obligations.WaitEndsWhenBusyReadsZero : Prop :=
  ∀ (s : State) (rest : List HostEvent), s.host = .wait :: rest → completionDue s = false →
    ∃ t, step s = .next t ∧ t.response = .data (readReg s .status) ∧ (∀ r, readReg t r = readReg s r) ∧
      ((readReg s .status).getLsbD 0 = true → t.host = s.host) ∧
      ((readReg s .status).getLsbD 0 = false → t.host = rest)

/-! ### Completion and errors -/

/-- R304, R49: every command completes: DONE is 1, BUSY is 0, OVR is not written, and the host's side is as
before. DONE then stays 1 until reset or a write of 1 to STATUS bit 4, and nothing but a completion sets it. -/
def Obligations.EveryCommandCompletes : Prop :=
  (∀ (i : Instr) (s : State), ∃ t, exec i s = .next t ∧ t.doneFlag = true ∧ t.busy = false ∧ t.ovr = s.ovr ∧
    KeepsHostSide s t) ∧
  (∀ s t : State, step s = .next t → s.doneFlag = true → t.doneFlag = true ∨ s.host.head? = some .reset ∨
    ∃ v rest, s.host = asmWr .status v :: rest ∧ v.getLsbD 4 = true) ∧
  (∀ s t : State, step s = .next t → s.doneFlag = false → completionDue s = false → t.doneFlag = false)

/-- R301: "An erroring command writes nothing but STATUS.ERR, STATUS.DONE and STATUS.BUSY", whether it is a
command of the opcode map or an illegal word; and from the issue of a command to its completion nothing else
writes a register but OVR, so all is as before the command was issued. -/
def Obligations.ErroringCommandWritesNothingElse : Prop :=
  (∀ (i : Instr) (s : State), ∃ t, exec i s = .next t ∧
    (t.err ≠ .none → KeepsRegs statusOnly s t ∧ KeepsFlags s t ∧ t.doneFlag = true ∧ t.busy = false)) ∧
  (∀ s : State, completionDue s = true → ∃ t, step s = .next t ∧
    (t.err ≠ .none → KeepsRegs statusOnly s t ∧ KeepsFlags s t ∧ t.doneFlag = true ∧ t.busy = false)) ∧
  (∀ s : State, s.busy = true → completionDue s = false → s.host.head? ≠ some .reset →
    ∃ t, step s = .next t ∧ KeepsRegs statusOnly s t ∧ t.busy = true ∧ t.pend = s.pend ∧ t.ksValid = s.ksValid ∧
      t.modeValid = s.modeValid ∧ t.outLen = s.outLen ∧ t.err = s.err ∧ t.doneFlag = s.doneFlag)

/-- R302, R300: the code stands in STATUS[11:8] under its number of R300; a missing schedule is reported before a
missing instance, and both before any operand check, for every command that needs them; each error has the cause
R300 gives it and no command raises another. That a short FINALIZE fails on decrypt for OFB and CTR too is the model's
choice (log entry 20). -/
def Obligations.FirstFailingCheckIsReported : Prop :=
  (∀ s : State, (readReg s .status).extractLsb' 8 4 =
    match s.err with
    | .none => 0
    | .invalidKeyLength => 1
    | .invalidState => 2
    | .invalidIvLength => 3
    | .unsupportedMode => 4
    | .uninitialized => 5
    | .illegalCommand => 6
    | .invalidRound => 7) ∧
  ∀ (i : Instr) (s : State), ∃ t, exec i s = .next t ∧
    match i with
    | .addRoundKey rnd | .encRound rnd | .decRound rnd =>
        t.err = if s.ksValid = false then .uninitialized
          else if s.nr.toNat < rnd then .invalidRound else .none
    | .encryptBlock | .decryptBlock => t.err = if s.ksValid = false then .uninitialized else .none
    | .keyExpand =>
        t.err = if s.ctrlKsz = 3 ∨ s.keyLen.toNat ≠ 16 + 8 * s.ctrlKsz.toNat then .invalidKeyLength else .none
    | .modeInit =>
        t.err = if s.ksValid = false then .uninitialized
          else if 5 ≤ s.ctrlMode.toNat then .unsupportedMode
          else if s.ctrlMode ≠ 0 ∧ s.ivLen ≠ 16 then .invalidIvLength else .none
    | .processBlock => t.err = if s.ksValid = false ∨ s.modeValid = false then .uninitialized else .none
    | .finalize n =>
        t.err = if s.ksValid = false ∨ s.modeValid = false then .uninitialized
          else if 16 < n ∨ (s.dirR = .decrypt ∧ n ≠ 0 ∧ n ≠ 16) then .invalidState else .none
    | _ => t.err = .none

/-- R50, R282: what each command may write, over all commands. Only ZEROIZE writes KEY, IV, DIN and GF_OPS,
and no command at all writes CTRL, KEY_LEN or IV_LEN. -/
def Obligations.OnlyZeroizeWritesHostOperands : Prop :=
  ∀ (i : Instr) (s : State), ∃ t, exec i s = .next t ∧
    readReg t .ctrl = readReg s .ctrl ∧ readReg t .keyLen = readReg s .keyLen ∧
    readReg t .ivLen = readReg s .ivLen ∧
    (i ≠ .zeroize → readReg t .gfOps = readReg s .gfOps ∧ (∀ k, readReg t (.key k) = readReg s (.key k)) ∧
      (∀ k, readReg t (.iv k) = readReg s (.iv k)) ∧ ∀ k, readReg t (.din k) = readReg s (.din k))

/-! ### Control commands -/

/-- R280: NOP writes nothing but its completion: ERR <- 0 and DONE <- 1. -/
def Obligations.NopOnlyCompletes : Prop :=
  Spells 0x00000000#32 .nop ∧
  ∀ s : State, ∃ t, exec .nop s = .next t ∧ Completed .none t ∧ KeepsRegs statusOnly s t ∧ KeepsFlags s t ∧
    KeepsHostSide s t

/-- R281: ZEROIZE. Every data register, INFO and OUT_LEN become 0 and the valid flags fall; CTRL, KEY_LEN,
IV_LEN and OVR keep their values. With OVR = 0 STATUS reads 0x00000010 after it. -/
def Obligations.ZeroizeClearsEveryDataRegister : Prop :=
  Spells 0x0000001F#32 .zeroize ∧
  ∀ s : State, ∃ t, exec .zeroize s = .next t ∧ Completed .none t ∧
    (∀ r, dataAndStatus r = true → r ≠ .status → readReg t r = 0) ∧ KeepsRegs dataAndStatus s t ∧
    t.ksValid = false ∧ t.modeValid = false ∧ t.outLen = 0 ∧ t.ovr = s.ovr ∧ KeepsHostSide s t ∧
    (s.ovr = false → readReg t .status = 0x00000010)

/-- R281, R282, R340 ("no key material survives"): two machines that differ only in what ZEROIZE disposes of
(keys, IV, feedback, state, data in and out, schedule, results and the instance) are the same machine after
it. -/
def Obligations.ZeroizeForgetsAllKeyMaterial : Prop :=
  ∀ s s' : State, readReg s .ctrl = readReg s' .ctrl → s.keyLen = s'.keyLen → s.ivLen = s'.ivLen →
    s.ovr = s'.ovr → s.delay = s'.delay → s.host = s'.host → s.response = s'.response → s.draws = s'.draws →
    exec .zeroize s = exec .zeroize s'

/-! ### GF(2^8) and the S-box -/

/-- R150: GF_MUL. -/
def Obligations.GfMulWritesTheProduct : Prop :=
  Spells 0x00000011#32 .gfMul ∧
  (∀ s : State, ∃ t, exec .gfMul s = .next t ∧ Completed .none t ∧
    readReg t .gfRes =
      (gfMul ((readReg s .gfOps).extractLsb' 0 8) ((readReg s .gfOps).extractLsb' 8 8)).zeroExtend 32 ∧
    KeepsRegs gfResAndStatus s t ∧ KeepsFlags s t ∧ KeepsHostSide s t) ∧
  (∀ a : Byte, gfMul a 0 = 0 ∧ gfMul 0 a = 0) ∧ gfMul 0xFF 0xFF = 0x13 ∧ gfMul 0x80 0x02 = 0x1B ∧
  gfMul 0x57 0x83 = 0xC1

/-- R151: SBOX_FWD reads GF_OPS.A only. -/
def Obligations.SboxFwdLooksUpTheForwardTable : Prop :=
  Spells 0x00000012#32 .sboxFwd ∧
  (∀ s : State, ∃ t, exec .sboxFwd s = .next t ∧ Completed .none t ∧
    readReg t .gfRes = (sbox ((readReg s .gfOps).extractLsb' 0 8)).zeroExtend 32 ∧
    KeepsRegs gfResAndStatus s t ∧ KeepsFlags s t ∧ KeepsHostSide s t) ∧
  sbox 0x00 = 0x63 ∧ sbox 0xFF = 0x16 ∧ sbox 0x53 = 0xED

/-- R152: SBOX_INV reads GF_OPS.A only. -/
def Obligations.SboxInvLooksUpTheInverseTable : Prop :=
  Spells 0x00000013#32 .sboxInv ∧
  (∀ s : State, ∃ t, exec .sboxInv s = .next t ∧ Completed .none t ∧
    readReg t .gfRes = (invSbox ((readReg s .gfOps).extractLsb' 0 8)).zeroExtend 32 ∧
    KeepsRegs gfResAndStatus s t ∧ KeepsFlags s t ∧ KeepsHostSide s t) ∧
  invSbox 0x63 = 0x00 ∧ invSbox 0x00 = 0x52 ∧ invSbox 0x16 = 0xFF ∧ invSbox 0xED = 0x53

/-- R141: the product is the sum of `a` doubled `i` times over the set bits `i` of `b`, and the properties
R141 lists. -/
def Obligations.GfMulIsFieldMultiplication : Prop :=
  (∀ a b : Byte, gfMul a b =
    (List.range 8).foldl (fun p i => if b.getLsbD i then p ^^^ xtime^[i] a else p) 0) ∧
  (∀ a b : Byte, gfMul a b = gfMul b a) ∧ (∀ a : Byte, gfMul a 0 = 0 ∧ gfMul a 1 = a ∧ gfMul a 0x02 = xtime a) ∧
  (∀ a b c : Byte, gfMul a (b ^^^ c) = gfMul a b ^^^ gfMul a c) ∧
  (∀ a : Byte, a ≠ 0 → ∃! b, gfMul a b = 1)

/-- R142, R143, R144: the tables are the affine image of the field inverse, and each other's inverse. -/
def Obligations.SboxTablesAreTheStandardOnes : Prop :=
  let affine (b : Byte) : Byte :=
    b ^^^ b.rotateLeft 1 ^^^ b.rotateLeft 2 ^^^ b.rotateLeft 3 ^^^ b.rotateLeft 4 ^^^ 0x63
  sbox 0 = affine 0 ∧ (∀ x y : Byte, gfMul x y = 1 → sbox x = affine y) ∧
  (∀ x : Byte, invSbox (sbox x) = x) ∧ (∀ y : Byte, sbox (invSbox y) = y)

/-! ### Keyless round transformations -/

/-- R170: SUB_BYTES. -/
def Obligations.SubBytesSubstitutesEachByte : Prop :=
  Spells 0x00000001#32 .subBytes ∧
  (∀ s : State, ∃ t, exec .subBytes s = .next t ∧ Completed .none t ∧
    (∀ r c, blockAt t.stateReg r c = sbox (blockAt s.stateReg r c)) ∧
    KeepsRegs stateAndStatus s t ∧ KeepsFlags s t ∧ KeepsHostSide s t) ∧
  subBytes Block.zero = blockOfBytes (fun _ => 0x63) ∧
  subBytes (blockOfBytes fun k => BitVec.ofNat 8 (16 * k)) =
    ⟨⟨0x63, 0xCA, 0xB7, 0x04⟩, ⟨0x09, 0x53, 0xD0, 0x51⟩, ⟨0xCD, 0x60, 0xE0, 0xE7⟩, ⟨0xBA, 0x70, 0xE1, 0x8C⟩⟩

/-- R171: INV_SUB_BYTES, the exact inverse of SUB_BYTES. -/
def Obligations.InvSubBytesUndoesSubBytes : Prop :=
  Spells 0x00000002#32 .invSubBytes ∧
  (∀ s : State, ∃ t, exec .invSubBytes s = .next t ∧ Completed .none t ∧
    (∀ r c, blockAt t.stateReg r c = invSbox (blockAt s.stateReg r c)) ∧
    KeepsRegs stateAndStatus s t ∧ KeepsFlags s t ∧ KeepsHostSide s t) ∧
  invSubBytes Block.zero = blockOfBytes (fun _ => 0x52) ∧ (∀ b : Block, invSubBytes (subBytes b) = b) ∧
  invSubBytes ⟨⟨0x63, 0xCA, 0xB7, 0x04⟩, ⟨0x09, 0x53, 0xD0, 0x51⟩, ⟨0xCD, 0x60, 0xE0, 0xE7⟩, ⟨0xBA, 0x70, 0xE1, 0x8C⟩⟩ =
    blockOfBytes fun k => BitVec.ofNat 8 (16 * k)

/-- R172: SHIFT_ROWS. Row r moves left by r; four times is the identity. -/
def Obligations.ShiftRowsRotatesRowsLeft : Prop :=
  Spells 0x00000003#32 .shiftRows ∧
  (∀ s : State, ∃ t, exec .shiftRows s = .next t ∧ Completed .none t ∧
    (∀ r c : Fin 4, blockAt t.stateReg r c = blockByte s.stateReg (r.val + 4 * ((c.val + r.val) % 4))) ∧
    KeepsRegs stateAndStatus s t ∧ KeepsFlags s t ∧ KeepsHostSide s t) ∧
  (∀ w : Col, shiftRows ⟨w, w, w, w⟩ = ⟨w, w, w, w⟩) ∧ (∀ b : Block, shiftRows^[4] b = b) ∧
  shiftRows (blockOfBytes (BitVec.ofNat 8)) =
    ⟨⟨0x00, 0x05, 0x0A, 0x0F⟩, ⟨0x04, 0x09, 0x0E, 0x03⟩, ⟨0x08, 0x0D, 0x02, 0x07⟩, ⟨0x0C, 0x01, 0x06, 0x0B⟩⟩

/-- R173: INV_SHIFT_ROWS, row r moves right by r; the two undo each other. -/
def Obligations.InvShiftRowsUndoesShiftRows : Prop :=
  Spells 0x00000004#32 .invShiftRows ∧
  (∀ s : State, ∃ t, exec .invShiftRows s = .next t ∧ Completed .none t ∧
    (∀ r c : Fin 4, blockAt t.stateReg r c = blockByte s.stateReg (r.val + 4 * ((c.val + 4 - r.val) % 4))) ∧
    KeepsRegs stateAndStatus s t ∧ KeepsFlags s t ∧ KeepsHostSide s t) ∧
  (∀ b : Block, invShiftRows (shiftRows b) = b ∧ shiftRows (invShiftRows b) = b) ∧
  invShiftRows (blockOfBytes (BitVec.ofNat 8)) =
    ⟨⟨0x00, 0x0D, 0x0A, 0x07⟩, ⟨0x04, 0x01, 0x0E, 0x0B⟩, ⟨0x08, 0x05, 0x02, 0x0F⟩, ⟨0x0C, 0x09, 0x06, 0x03⟩⟩

/-- R174: MIX_COLUMNS, each column times the circulant matrix of (02, 03, 01, 01). -/
def Obligations.MixColumnsMultipliesEachColumn : Prop :=
  Spells 0x00000005#32 .mixColumns ∧
  (∀ s : State, ∃ t, exec .mixColumns s = .next t ∧ Completed .none t ∧
    (∀ r c : Fin 4, blockAt t.stateReg r c =
      gfMul 0x02 (blockAt s.stateReg r c) ^^^ gfMul 0x03 (blockAt s.stateReg (r + 1) c) ^^^
        blockAt s.stateReg (r + 2) c ^^^ blockAt s.stateReg (r + 3) c) ∧
    KeepsRegs stateAndStatus s t ∧ KeepsFlags s t ∧ KeepsHostSide s t) ∧
  mixColumns Block.zero = Block.zero ∧ (∀ v : Byte, mixCol ⟨v, v, v, v⟩ = ⟨v, v, v, v⟩) ∧
  mixColumns ⟨⟨0xDB, 0x13, 0x53, 0x45⟩, ⟨0xF2, 0x0A, 0x22, 0x5C⟩, ⟨0x01, 0x01, 0x01, 0x01⟩, ⟨0xC6, 0xC6, 0xC6, 0xC6⟩⟩ =
    ⟨⟨0x8E, 0x4D, 0xA1, 0xBC⟩, ⟨0x9F, 0xDC, 0x58, 0x9D⟩, ⟨0x01, 0x01, 0x01, 0x01⟩, ⟨0xC6, 0xC6, 0xC6, 0xC6⟩⟩ ∧
  mixColumns ⟨⟨0xD4, 0xBF, 0x5D, 0x30⟩, ⟨0xE0, 0xB4, 0x52, 0xAE⟩, ⟨0xB8, 0x41, 0x11, 0xF1⟩, ⟨0x1E, 0x27, 0x98, 0xE5⟩⟩ =
    ⟨⟨0x04, 0x66, 0x81, 0xE5⟩, ⟨0xE0, 0xCB, 0x19, 0x9A⟩, ⟨0x48, 0xF8, 0xD3, 0x7A⟩, ⟨0x28, 0x06, 0x26, 0x4C⟩⟩

/-- R175: INV_MIX_COLUMNS, each column times the circulant matrix of (0e, 0b, 0d, 09); the two undo each
other. -/
def Obligations.InvMixColumnsUndoesMixColumns : Prop :=
  Spells 0x00000006#32 .invMixColumns ∧
  (∀ s : State, ∃ t, exec .invMixColumns s = .next t ∧ Completed .none t ∧
    (∀ r c : Fin 4, blockAt t.stateReg r c =
      gfMul 0x0E (blockAt s.stateReg r c) ^^^ gfMul 0x0B (blockAt s.stateReg (r + 1) c) ^^^
        gfMul 0x0D (blockAt s.stateReg (r + 2) c) ^^^ gfMul 0x09 (blockAt s.stateReg (r + 3) c)) ∧
    KeepsRegs stateAndStatus s t ∧ KeepsFlags s t ∧ KeepsHostSide s t) ∧
  (∀ b : Block, invMixColumns (mixColumns b) = b ∧ mixColumns (invMixColumns b) = b) ∧
  (∀ v : Byte, invMixCol ⟨v, v, v, v⟩ = ⟨v, v, v, v⟩) ∧
  invMixColumns ⟨⟨0x8E, 0x4D, 0xA1, 0xBC⟩, ⟨0x9F, 0xDC, 0x58, 0x9D⟩, ⟨0x01, 0x01, 0x01, 0x01⟩, ⟨0xC6, 0xC6, 0xC6, 0xC6⟩⟩ =
    ⟨⟨0xDB, 0x13, 0x53, 0x45⟩, ⟨0xF2, 0x0A, 0x22, 0x5C⟩, ⟨0x01, 0x01, 0x01, 0x01⟩, ⟨0xC6, 0xC6, 0xC6, 0xC6⟩⟩

/-! ### Keyed round transformations -/

/-- R176: ADD_ROUND_KEY. Column c is XORed with word 4r + c, byte j with row j; the errors in their order. That
NR is at most 14 (R38) is part of the register invariant; it keeps word 4r + c among KS0-KS59. -/
def Obligations.AddRoundKeyXorsTheRoundKey : Prop :=
  (∀ rnd < 16, Spells (0x00000007#32 ||| BitVec.ofNat 32 rnd <<< 8) (.addRoundKey rnd)) ∧
  (∀ (s : State) (rnd : Nat), s.ksValid = true → s.nr.toNat ≤ 14 → rnd ≤ s.nr.toNat →
    ∃ t, exec (.addRoundKey rnd) s = .next t ∧ Completed .none t ∧
      (∀ j c : Fin 4, blockAt t.stateReg j c =
        blockAt s.stateReg j c ^^^ colByte (scheduleWord s.ks (4 * rnd + c.val)) j) ∧
      KeepsRegs stateAndStatus s t ∧ KeepsFlags s t ∧ KeepsHostSide s t) ∧
  (∀ (s : State) (rnd : Nat), s.ksValid = false → FailsWith .uninitialized (.addRoundKey rnd) s) ∧
  (∀ (s : State) (rnd : Nat), s.ksValid = true → s.nr.toNat < rnd →
    FailsWith .invalidRound (.addRoundKey rnd) s) ∧
  (∀ (ks : Vector Col 60) (b : Block) (r : Nat), addRoundKey ks (addRoundKey ks b r) r = b) ∧
  (∀ (ks : Vector Col 60) (r : Nat), addRoundKey ks Block.zero r = roundKey ks r) ∧
  (∀ ks : Vector Col 60,
    roundKey ks 0 = ⟨⟨0x2B, 0x7E, 0x15, 0x16⟩, ⟨0x28, 0xAE, 0xD2, 0xA6⟩, ⟨0xAB, 0xF7, 0x15, 0x88⟩, ⟨0x09, 0xCF, 0x4F, 0x3C⟩⟩ →
    addRoundKey ks ⟨⟨0x32, 0x43, 0xF6, 0xA8⟩, ⟨0x88, 0x5A, 0x30, 0x8D⟩, ⟨0x31, 0x31, 0x98, 0xA2⟩, ⟨0xE0, 0x37, 0x07, 0x34⟩⟩ 0 =
      ⟨⟨0x19, 0x3D, 0xE3, 0xBE⟩, ⟨0xA0, 0xF4, 0xE2, 0x2B⟩, ⟨0x9A, 0xC6, 0x8D, 0x2A⟩, ⟨0xE9, 0xF8, 0x48, 0x08⟩⟩)

/-- R177: ENC_ROUND, the three kinds of round; the errors of R176. -/
def Obligations.EncRoundStepsTheEncryptMachine : Prop :=
  (∀ rnd < 16, Spells (0x00000008#32 ||| BitVec.ofNat 32 rnd <<< 8) (.encRound rnd)) ∧
  (∀ (s : State) (rnd : Nat), s.ksValid = true → rnd ≤ s.nr.toNat →
    ∃ t, exec (.encRound rnd) s = .next t ∧ Completed .none t ∧
      (rnd = 0 → t.stateReg = addRoundKey s.ks s.stateReg 0) ∧
      (1 ≤ rnd → rnd + 1 ≤ s.nr.toNat →
        t.stateReg = addRoundKey s.ks (mixColumns (shiftRows (subBytes s.stateReg))) rnd) ∧
      (rnd ≠ 0 → rnd = s.nr.toNat → t.stateReg = addRoundKey s.ks (shiftRows (subBytes s.stateReg)) rnd) ∧
      KeepsRegs stateAndStatus s t ∧ KeepsFlags s t ∧ KeepsHostSide s t) ∧
  (∀ (s : State) (rnd : Nat), s.ksValid = false → FailsWith .uninitialized (.encRound rnd) s) ∧
  (∀ (s : State) (rnd : Nat), s.ksValid = true → s.nr.toNat < rnd → FailsWith .invalidRound (.encRound rnd) s)

/-- R178: DEC_ROUND, the three kinds of round of the decrypt mirror; the errors of R176. That round 0 is the
pseudocode's, and not the corner case's "both are AddRoundKey(0)", is the model's choice (log entry 19). -/
def Obligations.DecRoundStepsTheDecryptMirror : Prop :=
  (∀ rnd < 16, Spells (0x00000009#32 ||| BitVec.ofNat 32 rnd <<< 8) (.decRound rnd)) ∧
  (∀ (s : State) (rnd : Nat), s.ksValid = true → rnd ≤ s.nr.toNat →
    ∃ t, exec (.decRound rnd) s = .next t ∧ Completed .none t ∧
      (rnd = s.nr.toNat → t.stateReg = addRoundKey s.ks s.stateReg rnd) ∧
      (1 ≤ rnd → rnd + 1 ≤ s.nr.toNat →
        t.stateReg = invMixColumns (addRoundKey s.ks (invSubBytes (invShiftRows s.stateReg)) rnd)) ∧
      (rnd = 0 → rnd ≠ s.nr.toNat → t.stateReg = addRoundKey s.ks (invSubBytes (invShiftRows s.stateReg)) 0) ∧
      KeepsRegs stateAndStatus s t ∧ KeepsFlags s t ∧ KeepsHostSide s t) ∧
  (∀ (s : State) (rnd : Nat), s.ksValid = false → FailsWith .uninitialized (.decRound rnd) s) ∧
  (∀ (s : State) (rnd : Nat), s.ksValid = true → s.nr.toNat < rnd → FailsWith .invalidRound (.decRound rnd) s)

/-- R179: decryption undoes encryption and encryption undoes decryption, for every block, every schedule and
every round count. Round 0 of decryption is log entry 19's. -/
def Obligations.BlockDecryptionInvertsEncryption : Prop :=
  ∀ (ks : Vector Col 60) (nr : Nat) (x : Block),
    decryptBlock ks nr (encryptBlock ks nr x) = x ∧ encryptBlock ks nr (decryptBlock ks nr x) = x

/-- R180, R179, R177: ENCRYPT_BLOCK leaves the STATE that ENC_ROUND 0, 1, ..., NR leave one after the other,
and writes only STATE; without a schedule it raises UNINITIALIZED. -/
def Obligations.EncryptBlockIsTheRoundsInOrder : Prop :=
  Spells 0x0000000A#32 .encryptBlock ∧
  (∀ s : State, s.ksValid = true → ∃ t, exec .encryptBlock s = .next t ∧ Completed .none t ∧
    (∃ b : Nat → Block, b 0 = s.stateReg ∧ b (s.nr.toNat + 1) = t.stateReg ∧
      ∀ r ≤ s.nr.toNat, ∃ u, exec (.encRound r) { s with stateReg := b r } = .next u ∧ u.err = .none ∧
        u.stateReg = b (r + 1)) ∧
    KeepsRegs stateAndStatus s t ∧ KeepsFlags s t ∧ KeepsHostSide s t) ∧
  (∀ s : State, s.ksValid = false → FailsWith .uninitialized .encryptBlock s)

/-- R181, R179, R178: DECRYPT_BLOCK leaves the STATE that DEC_ROUND NR, NR-1, ..., 0 leave one after the other,
and writes only STATE; after ENCRYPT_BLOCK, under the same schedule, it restores STATE. DEC_ROUND 0 is log entry
19's. -/
def Obligations.DecryptBlockIsTheMirrorInOrder : Prop :=
  Spells 0x0000000B#32 .decryptBlock ∧
  (∀ s : State, s.ksValid = true → ∃ t, exec .decryptBlock s = .next t ∧ Completed .none t ∧
    (∃ b : Nat → Block, b (s.nr.toNat + 1) = s.stateReg ∧ b 0 = t.stateReg ∧
      ∀ r ≤ s.nr.toNat, ∃ u, exec (.decRound r) { s with stateReg := b (r + 1) } = .next u ∧ u.err = .none ∧
        u.stateReg = b r) ∧
    KeepsRegs stateAndStatus s t ∧ KeepsFlags s t ∧ KeepsHostSide s t) ∧
  (∀ s : State, s.ksValid = false → FailsWith .uninitialized .decryptBlock s) ∧
  (∀ s : State, s.ksValid = true → ∃ t u, exec .encryptBlock s = .next t ∧ exec .decryptBlock t = .next u ∧
    u.err = .none ∧ u.stateReg = s.stateReg)

/-! ### Key schedule -/

/-- R211, R210, R212, R213: KEY_EXPAND. With a legal size and length, the first Nk words are the key's, each later
word up to 4·(Nr+1) follows the recurrence with the round constant doubled at each multiple of Nk, and the
rest of KS0-KS59 are 0; KSi reads LE32 of word i; INFO, KS_VALID and MODE_VALID as R211 says; with any other
size or length INVALID_KEY_LENGTH. -/
def Obligations.KeyExpandFollowsTheRecurrence : Prop :=
  Spells 0x00000010#32 .keyExpand ∧
  (∀ s : State, s.ctrlKsz ≠ 3 → s.keyLen.toNat = 16 + 8 * s.ctrlKsz.toNat →
    let nk := 4 + 2 * s.ctrlKsz.toNat
    let nr := nk + 6
    ∃ t, exec .keyExpand s = .next t ∧ Completed .none t ∧
      (∀ i : Fin 8, i.val < nk → scheduleWord t.ks i.val = s.key[i]) ∧
      (∀ i, nk ≤ i → i < 4 * (nr + 1) →
        scheduleWord t.ks i = colXor (scheduleWord t.ks (i - nk))
          (if i % nk = 0 then
            colXor (subWord (rotWord (scheduleWord t.ks (i - 1)))) ⟨xtime^[i / nk - 1] 0x01, 0, 0, 0⟩
          else if nk > 6 ∧ i % nk = 4 then subWord (scheduleWord t.ks (i - 1))
          else scheduleWord t.ks (i - 1))) ∧
      (∀ i, 4 * (nr + 1) ≤ i → i < 60 → scheduleWord t.ks i = Col.zero) ∧
      (∀ (i : Fin 60) (j : Fin 4),
        (readReg t (.ks i)).extractLsb' (8 * j.val) 8 = colByte (scheduleWord t.ks i.val) j) ∧
      t.nk.toNat = nk ∧ t.nr.toNat = nr ∧ t.modeR = s.modeR ∧ t.dirR = s.dirR ∧
      t.ksValid = true ∧ t.modeValid = false ∧ t.outLen = s.outLen ∧ t.ovr = s.ovr ∧
      KeepsRegs scheduleAndStatus s t ∧ KeepsHostSide s t) ∧
  (∀ s : State, s.ctrlKsz = 3 ∨ s.keyLen.toNat ≠ 16 + 8 * s.ctrlKsz.toNat →
    FailsWith .invalidKeyLength .keyExpand s)

/-- R211 ("Key bytes `K[4Nk .. 31]` are ignored", "a pure function of the key"): two machines whose size,
length and first Nk key words agree expand the same schedule, whatever else they hold. -/
def Obligations.ScheduleDependsOnlyOnTheKeyUsed : Prop :=
  ∀ s s' : State, s.ctrlKsz ≠ 3 → s'.ctrlKsz = s.ctrlKsz → s.keyLen.toNat = 16 + 8 * s.ctrlKsz.toNat →
    s'.keyLen = s.keyLen → (∀ i : Fin 8, i.val < 4 + 2 * s.ctrlKsz.toNat → s'.key[i] = s.key[i]) →
    ∃ t t', exec .keyExpand s = .next t ∧ exec .keyExpand s' = .next t' ∧ t.ks = t'.ks ∧ t.nk = t'.nk ∧
      t.nr = t'.nr ∧ t.err = .none ∧ t'.err = .none

/-! ### Block modes -/

/-- R232: MODE_INIT. It latches MODE and DIR, loads FB with the IV or, for ECB, with 0, and sets MODE_VALID;
the errors in their order. INFO shows NK, NR, MODE_R and DIR_R at [3:0], [7:4], [10:8] and [11], reserved bits
0 (R38), with the modes numbered as in R32. -/
def Obligations.ModeInitStartsAnInstance : Prop :=
  Spells 0x00000018#32 .modeInit ∧
  (∀ s : State, let w := readReg s .info
    w.extractLsb' 0 4 = s.nk ∧ w.extractLsb' 4 4 = s.nr ∧
      (w.extractLsb' 8 3 = match s.modeR with
        | .ecb => 0
        | .cbc => 1
        | .cfb => 2
        | .ofb => 3
        | .ctr => 4) ∧
      (w.getLsbD 11 = true ↔ s.dirR = .decrypt) ∧ w.extractLsb' 12 20 = 0) ∧
  (∀ s : State, s.ksValid = true → s.ctrlMode.toNat ≤ 4 → s.ctrlMode = 0 ∨ s.ivLen = 16 →
    ∃ t, exec .modeInit s = .next t ∧ Completed .none t ∧ (readReg t .info).extractLsb' 8 3 = s.ctrlMode ∧
      modeCode t.modeR = s.ctrlMode ∧ t.dirR = s.ctrlDir ∧
      t.fb = (if s.ctrlMode = 0 then Block.zero else s.iv) ∧ t.modeValid = true ∧ t.ksValid = s.ksValid ∧
      t.nk = s.nk ∧ t.nr = s.nr ∧ t.outLen = s.outLen ∧ t.ovr = s.ovr ∧ KeepsRegs transformAndStatus s t ∧
      KeepsHostSide s t) ∧
  (∀ s : State, s.ksValid = false → FailsWith .uninitialized .modeInit s) ∧
  (∀ s : State, s.ksValid = true → 5 ≤ s.ctrlMode.toNat → FailsWith .unsupportedMode .modeInit s) ∧
  (∀ s : State, s.ksValid = true → s.ctrlMode.toNat ≤ 4 → s.ctrlMode ≠ 0 → s.ivLen ≠ 16 →
    FailsWith .invalidIvLength .modeInit s)

/-- R238, R231, R233-R237: PROCESS_BLOCK. The output and the new feedback of each mode and direction, with E
and D the block functions under the schedule; OUT_LEN is 16; without a schedule or an instance
UNINITIALIZED. -/
def Obligations.ProcessBlockChainsByMode : Prop :=
  Spells 0x00000019#32 .processBlock ∧
  (∀ s : State, s.ksValid = true → s.modeValid = true →
    let E := encryptBlock s.ks s.nr.toNat
    let D := decryptBlock s.ks s.nr.toNat
    ∃ t, exec .processBlock s = .next t ∧ Completed .none t ∧ t.outLen = 16 ∧
      (s.modeR = .ecb → t.dout = (if s.dirR = .encrypt then E s.din else D s.din) ∧ t.fb = s.fb) ∧
      (s.modeR = .cbc → s.dirR = .encrypt → t.dout = E (blockXor s.din s.fb) ∧ t.fb = t.dout) ∧
      (s.modeR = .cbc → s.dirR = .decrypt → t.dout = blockXor (D s.din) s.fb ∧ t.fb = s.din) ∧
      (s.modeR = .cfb → t.dout = blockXor s.din (E s.fb) ∧
        t.fb = if s.dirR = .encrypt then t.dout else s.din) ∧
      (s.modeR = .ofb → t.fb = E s.fb ∧ t.dout = blockXor s.din (E s.fb)) ∧
      (s.modeR = .ctr → t.dout = blockXor s.din (E s.fb) ∧
        be32 t.fb.c3 = be32 s.fb.c3 + 1 ∧ t.fb.c0 = s.fb.c0 ∧ t.fb.c1 = s.fb.c1 ∧ t.fb.c2 = s.fb.c2) ∧
      t.ksValid = s.ksValid ∧ t.modeValid = s.modeValid ∧ t.ovr = s.ovr ∧ KeepsRegs outputAndStatus s t ∧
      KeepsHostSide s t) ∧
  (∀ s : State, s.ksValid = false ∨ s.modeValid = false → FailsWith .uninitialized .processBlock s)

/-- R241: FINALIZE. An empty chunk leaves no output; on encrypt the padded chunk goes through the chain; on
decrypt the block goes through the chain and loses its padding; the errors in their order. FINALIZE 16 on
encrypt is PROCESS_BLOCK. That DIR_R is read for OFB and CTR too is the model's choice (log entry 20). -/
def Obligations.FinalizePadsOrStripsTheLastChunk : Prop :=
  (∀ n < 32, Spells (0x0000001A#32 ||| BitVec.ofNat 32 n <<< 16) (.finalize n)) ∧
  (∀ s : State, s.ksValid = true → s.modeValid = true →
    ∃ t, exec (.finalize 0) s = .next t ∧ Completed .none t ∧ t.dout = Block.zero ∧ t.outLen = 0 ∧ t.fb = s.fb ∧
      t.ksValid = s.ksValid ∧ t.modeValid = s.modeValid ∧ t.ovr = s.ovr ∧ KeepsRegs outputAndStatus s t ∧
      KeepsHostSide s t) ∧
  (∀ (s : State) (n : Nat), s.ksValid = true → s.modeValid = true → 1 ≤ n → n ≤ 16 → s.dirR = .encrypt →
    ∃ t u, exec (.finalize n) s = .next t ∧ Completed .none t ∧
      exec .processBlock { s with din := padBlock s.din n } = .next u ∧ t.dout = u.dout ∧ t.fb = u.fb ∧
      t.outLen = 16 ∧ t.ksValid = s.ksValid ∧ t.modeValid = s.modeValid ∧ t.ovr = s.ovr ∧
      KeepsRegs outputAndStatus s t ∧ KeepsHostSide s t) ∧
  (∀ s : State, s.ksValid = true → s.modeValid = true → s.dirR = .decrypt →
    ∃ t u, exec (.finalize 16) s = .next t ∧ Completed .none t ∧ exec .processBlock s = .next u ∧
      t.outLen.toNat = stripLen u.dout ∧ t.fb = u.fb ∧
      (∀ k < 16, blockByte t.dout k = if k < stripLen u.dout then blockByte u.dout k else 0) ∧
      t.ksValid = s.ksValid ∧ t.modeValid = s.modeValid ∧ t.ovr = s.ovr ∧ KeepsRegs outputAndStatus s t ∧
      KeepsHostSide s t) ∧
  (∀ (s : State) (n : Nat), s.ksValid = false ∨ s.modeValid = false → FailsWith .uninitialized (.finalize n) s) ∧
  (∀ (s : State) (n : Nat), s.ksValid = true → s.modeValid = true → 16 < n →
    FailsWith .invalidState (.finalize n) s) ∧
  (∀ (s : State) (n : Nat), s.ksValid = true → s.modeValid = true → s.dirR = .decrypt → n ≠ 0 → n ≠ 16 →
    FailsWith .invalidState (.finalize n) s) ∧
  (∀ s : State, s.dirR = .encrypt → s.ksValid = true → s.modeValid = true →
    exec (.finalize 16) s = exec .processBlock s)

/-- R239: a full block is not padded; a shorter one gets one 0x80 and then zeros, to 16 bytes. -/
def Obligations.PadAppendsOneMarkerAndZeros : Prop :=
  ∀ d : Block, padBlock d 16 = d ∧
    ∀ n, 1 ≤ n → n ≤ 15 →
      blockBytes (padBlock d n) = (blockBytes d).take n ++ 0x80 :: List.replicate (15 - n) 0x00

/-- R240: if the last nonzero byte is 0x80 its index is kept; otherwise all 16 bytes are. -/
def Obligations.StripRemovesZerosAndOneMarker : Prop :=
  ∀ x : Block,
    (∀ m < 16, blockByte x m = 0x80 → (∀ k, m < k → k < 16 → blockByte x k = 0x00) → stripLen x = m) ∧
    ((∀ m < 16, blockByte x m ≠ 0x00 → (∀ k, m < k → k < 16 → blockByte x k = 0x00) → blockByte x m ≠ 0x80) →
      stripLen x = 16)

/-- R243: "The plaintexts that do not round-trip are exactly those" whose final block is full and has 0x80 as
its last nonzero byte: a final chunk of n bytes is recovered exactly in every other case. -/
def Obligations.PaddingRoundTripFailsExactlyOnMarkerTails : Prop :=
  ∀ (d : Block) (n : Nat), 1 ≤ n → n ≤ 16 →
    ((stripLen (padBlock d n) = n ∧ ∀ k < n, blockByte (padBlock d n) k = blockByte d k) ↔
      ¬ (n = 16 ∧ ∃ m < 16, blockByte d m = 0x80 ∧ ∀ k, m < k → k < 16 → blockByte d k = 0x00))

/-- R242, R244, R179: a stream round-trips in each of the five modes: whatever blocks the encrypting end puts
through PROCESS_BLOCK, a decrypting end with the same schedule, mode and feedback recovers them in order,
and the two feedback registers agree at the end. -/
def Obligations.StreamsRoundTripInEveryMode : Prop :=
  ∀ (s t : State) (xs : List Block), MatchingEnds s t →
    ∃ ys s' t', processStream s xs = some (ys, s') ∧ processStream t ys = some (xs, t') ∧ t'.fb = s'.fb

/-- R241, R243, R244: a short final chunk of 1 to 15 bytes round-trips in each of the five modes: FINALIZE n on
the encrypting end and FINALIZE 16 of its output on the decrypting end give the n bytes back, zeros after
them. That DIR_R is read for OFB and CTR too is the model's choice (log entry 20). -/
def Obligations.ShortFinalChunkRoundTrips : Prop :=
  ∀ (s t : State) (n : Nat), MatchingEnds s t → 1 ≤ n → n ≤ 15 →
    ∃ s' t', exec (.finalize n) s = .next s' ∧ exec (.finalize 16) { t with din := s'.dout } = .next t' ∧
      t'.err = .none ∧ t'.outLen.toNat = n ∧ t'.fb = s'.fb ∧
      (∀ k < n, blockByte t'.dout k = blockByte s.din k) ∧ ∀ k, n ≤ k → k < 16 → blockByte t'.dout k = 0

/-- R237, R83: in CTR mode the counter "increments once per block across the whole stream", modulo 2^32 and
with the nonce unchanged: after any stream of blocks FB holds the nonce and the seed plus their number. -/
def Obligations.CounterAdvancesOncePerBlock : Prop :=
  ∀ (s : State) (xs : List Block), s.ksValid = true → s.modeValid = true → s.modeR = .ctr →
    ∃ ys s', processStream s xs = some (ys, s') ∧ be32 s'.fb.c3 = be32 s.fb.c3 + BitVec.ofNat 32 xs.length ∧
      s'.fb.c0 = s.fb.c0 ∧ s'.fb.c1 = s.fb.c1 ∧ s'.fb.c2 = s.fb.c2

/-! ### Whole-machine invariants -/

/-- R51, R340: the register invariant holds after reset, and so does the claim that a valid schedule is an
expanded one. -/
def Obligations.InvariantsHoldAtReset : Prop := RegisterInv State.reset ∧ HoldsExpandedSchedule State.reset

/-- R33, R38, R41, R44, R45, R230: every step, of the host or of the engine, keeps the register invariant. -/
def Obligations.StepKeepsTheRegisterInvariant : Prop :=
  ∀ s t : State, RegisterInv s → step s = .next t → RegisterInv t

/-- R33, R214: every step keeps it true that a valid schedule is the expansion of some key. "Host writes to
KEY0-7, KEY_LEN or CTRL.KSZ afterwards do not change KS, INFO or KS_VALID": no step changes KS, NK, NR or KS_VALID
but a reset and the completion of KEY_EXPAND or ZEROIZE, and none but KEY_EXPAND's makes a schedule valid. -/
def Obligations.StepKeepsTheScheduleExpanded : Prop :=
  (∀ s t : State, HoldsExpandedSchedule s → step s = .next t → HoldsExpandedSchedule t) ∧
  (∀ s t : State, step s = .next t →
    (t.ks = s.ks ∧ t.nk = s.nk ∧ t.nr = s.nr ∧ t.ksValid = s.ksValid) ∨ s.host.head? = some .reset ∨
      (completionDue s = true ∧ (decode s.pend = .command .keyExpand ∨ decode s.pend = .command .zeroize))) ∧
  (∀ s t : State, step s = .next t → t.ksValid = true →
    s.ksValid = true ∨ (completionDue s = true ∧ decode s.pend = .command .keyExpand))

/-- R343, R119, R86: a host whose program has the canonical form never loses a write: from a state in which it
respects the BUSY rule, every step keeps that, and OVR stays clear. -/
def Obligations.CanonicalProgramsLoseNoWrite : Prop :=
  ∀ s t : State, RespectsBusy s → s.ovr = false → step s = .next t → RespectsBusy t ∧ t.ovr = false

/-- R46, U5: PEND is "never observable" while BUSY = 0: two machines that differ only in it take steps that
differ in nothing else. -/
def Obligations.PendIsUnobservableWhileIdle : Prop :=
  ∀ (s : State) (p : Word), s.busy = false →
    ∃ t q, step s = .next t ∧ step { s with pend := p } = .next { t with pend := q }
end

