-- ==== Sys2Proof/Laws/Bytes.lean ====
section
/-!
SUPPORT. The small laws of bytes, columns and blocks: indexing after building, extensionality, exclusive or,
and the two byte orders.
-/
namespace Sys2Proof.Machine

@[simp] theorem colByte_colOfFn (f : Fin 4 → Byte) (j : Fin 4) : colByte (colOfFn f) j = f j := by
  match j with
  | 0 | 1 | 2 | 3 => rfl

@[simp] theorem blockAt_blockOfRC (f : Fin 4 → Fin 4 → Byte) (r c : Fin 4) : blockAt (blockOfRC f) r c = f r c := by
  match c with
  | 0 => exact colByte_colOfFn (fun r => f r 0) r
  | 1 => exact colByte_colOfFn (fun r => f r 1) r
  | 2 => exact colByte_colOfFn (fun r => f r 2) r
  | 3 => exact colByte_colOfFn (fun r => f r 3) r

theorem col_ext {v w : Col} (h : ∀ j, colByte v j = colByte w j) : v = w := by
  cases v; cases w
  simpa [colByte] using And.intro (h 0) (And.intro (h 1) (And.intro (h 2) (h 3)))

theorem block_ext {a b : Block} (h : ∀ r c, blockAt a r c = blockAt b r c) : a = b := by
  cases a; cases b
  have h0 := col_ext fun r => h r 0
  have h1 := col_ext fun r => h r 1
  have h2 := col_ext fun r => h r 2
  have h3 := col_ext fun r => h r 3
  simp only [blockCol] at h0 h1 h2 h3
  rw [h0, h1, h2, h3]

@[simp] theorem colByte_colXor (v w : Col) (j : Fin 4) : colByte (colXor v w) j = colByte v j ^^^ colByte w j := by
  match j with
  | 0 | 1 | 2 | 3 => rfl

@[simp] theorem blockAt_blockXor (a b : Block) (r c : Fin 4) :
    blockAt (blockXor a b) r c = blockAt a r c ^^^ blockAt b r c := by
  match c with
  | 0 | 1 | 2 | 3 => exact colByte_colXor _ _ r

theorem blockXor_comm (a b : Block) : blockXor a b = blockXor b a :=
  block_ext fun r c => by simp [BitVec.xor_comm]

@[simp] theorem blockXor_blockXor_right (a b : Block) : blockXor (blockXor a b) b = a :=
  block_ext fun r c => by simp

@[simp] theorem blockXor_blockXor_left (a b : Block) : blockXor a (blockXor a b) = b := by
  rw [blockXor_comm a b, blockXor_comm, blockXor_blockXor_right]

theorem blockXor_assoc (a b c : Block) : blockXor (blockXor a b) c = blockXor a (blockXor b c) :=
  block_ext fun r k => by simp [BitVec.xor_assoc]

/-- Byte `k` of a block built byte by byte. -/
theorem blockByte_blockOfBytes (f : Nat → Byte) {k : Nat} (h : k < 16) : blockByte (blockOfBytes f) k = f k := by
  interval_cases k <;> rfl

/-- `b[r + 4c]` is the byte at row `r` and column `c` (R13). -/
theorem blockByte_eq_blockAt (b : Block) (r c : Fin 4) : blockByte b (r.val + 4 * c.val) = blockAt b r c := by
  match r, c with
  | 0, 0 | 0, 1 | 0, 2 | 0, 3 | 1, 0 | 1, 1 | 1, 2 | 1, 3 => rfl
  | 2, 0 | 2, 1 | 2, 2 | 2, 3 | 3, 0 | 3, 1 | 3, 2 | 3, 3 => rfl

theorem block_ext_bytes {a b : Block} (h : ∀ k < 16, blockByte a k = blockByte b k) : a = b :=
  block_ext fun r c => by
    rw [← blockByte_eq_blockAt, ← blockByte_eq_blockAt]
    exact h _ (by omega)

/-- Reading the lanes of a packed word gives the bytes back (R16). -/
@[simp] theorem colOfLe32_le32 (w : Col) : colOfLe32 (le32 w) = w := by
  cases w
  simp only [colOfLe32, le32, Col.mk.injEq]
  refine ⟨?_, ?_, ?_, ?_⟩ <;>
    · apply BitVec.eq_of_getLsbD_eq
      intro i hi
      interval_cases i <;> simp only [BitVec.getLsbD_append, BitVec.getLsbD_extractLsb'] <;> simp

/-- Packing the lanes of a word gives the word back (R16). -/
@[simp] theorem le32_colOfLe32 (v : Word) : le32 (colOfLe32 v) = v := by
  apply BitVec.eq_of_getLsbD_eq
  intro i hi
  interval_cases i <;> simp only [le32, colOfLe32, BitVec.getLsbD_append, BitVec.getLsbD_extractLsb'] <;> simp

/-- `BE32(BE32inv(n)) = n` (R14). -/
@[simp] theorem be32_be32Inv (n : Word) : be32 (be32Inv n) = n := by
  have h : be32 (be32Inv n) = le32 (colOfLe32 n) := rfl
  rw [h, le32_colOfLe32]

theorem le32_injective {v w : Col} (h : le32 v = le32 w) : v = w := by
  rw [← colOfLe32_le32 v, h, colOfLe32_le32]

@[simp] theorem blockCol_setBlockCol (b : Block) (k q : Fin 4) (w : Col) :
    blockCol (setBlockCol b k w) q = if q = k then w else blockCol b q := by
  match k, q with
  | 0, 0 | 0, 1 | 0, 2 | 0, 3 | 1, 0 | 1, 1 | 1, 2 | 1, 3 => rfl
  | 2, 0 | 2, 1 | 2, 2 | 2, 3 | 3, 0 | 3, 1 | 3, 2 | 3, 3 => rfl

/-- The nonce stays and the counter goes up by 1 modulo 2^32 (R237). -/
@[simp] theorem nextCounter_counter (b : Block) : be32 (nextCounter b).c3 = be32 b.c3 + 1 := be32_be32Inv _
@[simp] theorem nextCounter_c0 (b : Block) : (nextCounter b).c0 = b.c0 := rfl
@[simp] theorem nextCounter_c1 (b : Block) : (nextCounter b).c1 = b.c1 := rfl
@[simp] theorem nextCounter_c2 (b : Block) : (nextCounter b).c2 = b.c2 := rfl

/-- Byte `j` of a register word is bits `[8j+7 : 8j]`, as written (R16). -/
theorem colByte_colOfLe32 (v : Word) (j : Fin 4) : colByte (colOfLe32 v) j = v.extractLsb' (8 * j.val) 8 := by
  match j with
  | 0 | 1 | 2 | 3 => rfl

/-- Byte `j` of a register word is bits `[8j+7 : 8j]`, as read (R16). -/
theorem extract_le32 (w : Col) (j : Fin 4) : (le32 w).extractLsb' (8 * j.val) 8 = colByte w j := by
  rw [← colByte_colOfLe32, colOfLe32_le32]

/-- Byte `j` of word `k` is byte `4k + j` of the array (R16). -/
theorem colByte_blockCol (b : Block) (k j : Fin 4) :
    colByte (blockCol b k) j = blockByte b (4 * k.val + j.val) := by
  match k, j with
  | 0, 0 | 0, 1 | 0, 2 | 0, 3 | 1, 0 | 1, 1 | 1, 2 | 1, 3 => rfl
  | 2, 0 | 2, 1 | 2, 2 | 2, 3 | 3, 0 | 3, 1 | 3, 2 | 3, 3 => rfl

end Sys2Proof.Machine
end

