-- ==== Sys2Proof/Laws/State.lean ====
section
/-!
SUPPORT. One lemma for each field of the state after each named update of Machine/Flags.lean, Machine/Ops.lean
and Machine/Bus.lean, true by rfl, so that no later proof unfolds a record update.
-/
namespace Sys2Proof.Machine

section
variable (c : ErrCode) (s : State)
@[simp] theorem complete_ctrlMode : (complete c s).ctrlMode = s.ctrlMode := rfl
@[simp] theorem complete_ctrlDir : (complete c s).ctrlDir = s.ctrlDir := rfl
@[simp] theorem complete_ctrlKsz : (complete c s).ctrlKsz = s.ctrlKsz := rfl
@[simp] theorem complete_ctrlIe : (complete c s).ctrlIe = s.ctrlIe := rfl
@[simp] theorem complete_busy : (complete c s).busy = false := rfl
@[simp] theorem complete_ksValid : (complete c s).ksValid = s.ksValid := rfl
@[simp] theorem complete_modeValid : (complete c s).modeValid = s.modeValid := rfl
@[simp] theorem complete_ovr : (complete c s).ovr = s.ovr := rfl
@[simp] theorem complete_doneFlag : (complete c s).doneFlag = true := rfl
@[simp] theorem complete_err : (complete c s).err = c := rfl
@[simp] theorem complete_outLen : (complete c s).outLen = s.outLen := rfl
@[simp] theorem complete_keyLen : (complete c s).keyLen = s.keyLen := rfl
@[simp] theorem complete_ivLen : (complete c s).ivLen = s.ivLen := rfl
@[simp] theorem complete_gfA : (complete c s).gfA = s.gfA := rfl
@[simp] theorem complete_gfB : (complete c s).gfB = s.gfB := rfl
@[simp] theorem complete_gfRes : (complete c s).gfRes = s.gfRes := rfl
@[simp] theorem complete_nk : (complete c s).nk = s.nk := rfl
@[simp] theorem complete_nr : (complete c s).nr = s.nr := rfl
@[simp] theorem complete_modeR : (complete c s).modeR = s.modeR := rfl
@[simp] theorem complete_dirR : (complete c s).dirR = s.dirR := rfl
@[simp] theorem complete_key : (complete c s).key = s.key := rfl
@[simp] theorem complete_iv : (complete c s).iv = s.iv := rfl
@[simp] theorem complete_fb : (complete c s).fb = s.fb := rfl
@[simp] theorem complete_stateReg : (complete c s).stateReg = s.stateReg := rfl
@[simp] theorem complete_din : (complete c s).din = s.din := rfl
@[simp] theorem complete_dout : (complete c s).dout = s.dout := rfl
@[simp] theorem complete_ks : (complete c s).ks = s.ks := rfl
@[simp] theorem complete_pend : (complete c s).pend = Config.undefinedPend s.draws := rfl
@[simp] theorem complete_delay : (complete c s).delay = s.delay := rfl
@[simp] theorem complete_host : (complete c s).host = s.host := rfl
@[simp] theorem complete_response : (complete c s).response = s.response := rfl
@[simp] theorem complete_draws : (complete c s).draws = s.draws + 1 := rfl
end

section
variable (c : Word) (s : State)
@[simp] theorem issue_ctrlMode : (issue c s).ctrlMode = s.ctrlMode := rfl
@[simp] theorem issue_ctrlDir : (issue c s).ctrlDir = s.ctrlDir := rfl
@[simp] theorem issue_ctrlKsz : (issue c s).ctrlKsz = s.ctrlKsz := rfl
@[simp] theorem issue_ctrlIe : (issue c s).ctrlIe = s.ctrlIe := rfl
@[simp] theorem issue_busy : (issue c s).busy = true := rfl
@[simp] theorem issue_ksValid : (issue c s).ksValid = s.ksValid := rfl
@[simp] theorem issue_modeValid : (issue c s).modeValid = s.modeValid := rfl
@[simp] theorem issue_ovr : (issue c s).ovr = s.ovr := rfl
@[simp] theorem issue_doneFlag : (issue c s).doneFlag = s.doneFlag := rfl
@[simp] theorem issue_err : (issue c s).err = s.err := rfl
@[simp] theorem issue_outLen : (issue c s).outLen = s.outLen := rfl
@[simp] theorem issue_keyLen : (issue c s).keyLen = s.keyLen := rfl
@[simp] theorem issue_ivLen : (issue c s).ivLen = s.ivLen := rfl
@[simp] theorem issue_gfA : (issue c s).gfA = s.gfA := rfl
@[simp] theorem issue_gfB : (issue c s).gfB = s.gfB := rfl
@[simp] theorem issue_gfRes : (issue c s).gfRes = s.gfRes := rfl
@[simp] theorem issue_nk : (issue c s).nk = s.nk := rfl
@[simp] theorem issue_nr : (issue c s).nr = s.nr := rfl
@[simp] theorem issue_modeR : (issue c s).modeR = s.modeR := rfl
@[simp] theorem issue_dirR : (issue c s).dirR = s.dirR := rfl
@[simp] theorem issue_key : (issue c s).key = s.key := rfl
@[simp] theorem issue_iv : (issue c s).iv = s.iv := rfl
@[simp] theorem issue_fb : (issue c s).fb = s.fb := rfl
@[simp] theorem issue_stateReg : (issue c s).stateReg = s.stateReg := rfl
@[simp] theorem issue_din : (issue c s).din = s.din := rfl
@[simp] theorem issue_dout : (issue c s).dout = s.dout := rfl
@[simp] theorem issue_ks : (issue c s).ks = s.ks := rfl
@[simp] theorem issue_pend : (issue c s).pend = c := rfl
@[simp] theorem issue_delay : (issue c s).delay = Config.latency c s.draws := rfl
@[simp] theorem issue_host : (issue c s).host = s.host := rfl
@[simp] theorem issue_response : (issue c s).response = s.response := rfl
@[simp] theorem issue_draws : (issue c s).draws = s.draws + 1 := rfl
end

section
variable (v : Word) (s : State)
@[simp] theorem putKeyLen_ctrlMode : (putKeyLen v s).ctrlMode = s.ctrlMode := rfl
@[simp] theorem putKeyLen_ctrlDir : (putKeyLen v s).ctrlDir = s.ctrlDir := rfl
@[simp] theorem putKeyLen_ctrlKsz : (putKeyLen v s).ctrlKsz = s.ctrlKsz := rfl
@[simp] theorem putKeyLen_ctrlIe : (putKeyLen v s).ctrlIe = s.ctrlIe := rfl
@[simp] theorem putKeyLen_busy : (putKeyLen v s).busy = s.busy := rfl
@[simp] theorem putKeyLen_ksValid : (putKeyLen v s).ksValid = s.ksValid := rfl
@[simp] theorem putKeyLen_modeValid : (putKeyLen v s).modeValid = s.modeValid := rfl
@[simp] theorem putKeyLen_ovr : (putKeyLen v s).ovr = s.ovr := rfl
@[simp] theorem putKeyLen_doneFlag : (putKeyLen v s).doneFlag = s.doneFlag := rfl
@[simp] theorem putKeyLen_err : (putKeyLen v s).err = s.err := rfl
@[simp] theorem putKeyLen_outLen : (putKeyLen v s).outLen = s.outLen := rfl
@[simp] theorem putKeyLen_keyLen : (putKeyLen v s).keyLen = v.extractLsb' 0 8 := rfl
@[simp] theorem putKeyLen_ivLen : (putKeyLen v s).ivLen = s.ivLen := rfl
@[simp] theorem putKeyLen_gfA : (putKeyLen v s).gfA = s.gfA := rfl
@[simp] theorem putKeyLen_gfB : (putKeyLen v s).gfB = s.gfB := rfl
@[simp] theorem putKeyLen_gfRes : (putKeyLen v s).gfRes = s.gfRes := rfl
@[simp] theorem putKeyLen_nk : (putKeyLen v s).nk = s.nk := rfl
@[simp] theorem putKeyLen_nr : (putKeyLen v s).nr = s.nr := rfl
@[simp] theorem putKeyLen_modeR : (putKeyLen v s).modeR = s.modeR := rfl
@[simp] theorem putKeyLen_dirR : (putKeyLen v s).dirR = s.dirR := rfl
@[simp] theorem putKeyLen_key : (putKeyLen v s).key = s.key := rfl
@[simp] theorem putKeyLen_iv : (putKeyLen v s).iv = s.iv := rfl
@[simp] theorem putKeyLen_fb : (putKeyLen v s).fb = s.fb := rfl
@[simp] theorem putKeyLen_stateReg : (putKeyLen v s).stateReg = s.stateReg := rfl
@[simp] theorem putKeyLen_din : (putKeyLen v s).din = s.din := rfl
@[simp] theorem putKeyLen_dout : (putKeyLen v s).dout = s.dout := rfl
@[simp] theorem putKeyLen_ks : (putKeyLen v s).ks = s.ks := rfl
@[simp] theorem putKeyLen_pend : (putKeyLen v s).pend = s.pend := rfl
@[simp] theorem putKeyLen_delay : (putKeyLen v s).delay = s.delay := rfl
@[simp] theorem putKeyLen_host : (putKeyLen v s).host = s.host := rfl
@[simp] theorem putKeyLen_response : (putKeyLen v s).response = s.response := rfl
@[simp] theorem putKeyLen_draws : (putKeyLen v s).draws = s.draws := rfl
end

section
variable (v : Word) (s : State)
@[simp] theorem putIvLen_ctrlMode : (putIvLen v s).ctrlMode = s.ctrlMode := rfl
@[simp] theorem putIvLen_ctrlDir : (putIvLen v s).ctrlDir = s.ctrlDir := rfl
@[simp] theorem putIvLen_ctrlKsz : (putIvLen v s).ctrlKsz = s.ctrlKsz := rfl
@[simp] theorem putIvLen_ctrlIe : (putIvLen v s).ctrlIe = s.ctrlIe := rfl
@[simp] theorem putIvLen_busy : (putIvLen v s).busy = s.busy := rfl
@[simp] theorem putIvLen_ksValid : (putIvLen v s).ksValid = s.ksValid := rfl
@[simp] theorem putIvLen_modeValid : (putIvLen v s).modeValid = s.modeValid := rfl
@[simp] theorem putIvLen_ovr : (putIvLen v s).ovr = s.ovr := rfl
@[simp] theorem putIvLen_doneFlag : (putIvLen v s).doneFlag = s.doneFlag := rfl
@[simp] theorem putIvLen_err : (putIvLen v s).err = s.err := rfl
@[simp] theorem putIvLen_outLen : (putIvLen v s).outLen = s.outLen := rfl
@[simp] theorem putIvLen_keyLen : (putIvLen v s).keyLen = s.keyLen := rfl
@[simp] theorem putIvLen_ivLen : (putIvLen v s).ivLen = v.extractLsb' 0 8 := rfl
@[simp] theorem putIvLen_gfA : (putIvLen v s).gfA = s.gfA := rfl
@[simp] theorem putIvLen_gfB : (putIvLen v s).gfB = s.gfB := rfl
@[simp] theorem putIvLen_gfRes : (putIvLen v s).gfRes = s.gfRes := rfl
@[simp] theorem putIvLen_nk : (putIvLen v s).nk = s.nk := rfl
@[simp] theorem putIvLen_nr : (putIvLen v s).nr = s.nr := rfl
@[simp] theorem putIvLen_modeR : (putIvLen v s).modeR = s.modeR := rfl
@[simp] theorem putIvLen_dirR : (putIvLen v s).dirR = s.dirR := rfl
@[simp] theorem putIvLen_key : (putIvLen v s).key = s.key := rfl
@[simp] theorem putIvLen_iv : (putIvLen v s).iv = s.iv := rfl
@[simp] theorem putIvLen_fb : (putIvLen v s).fb = s.fb := rfl
@[simp] theorem putIvLen_stateReg : (putIvLen v s).stateReg = s.stateReg := rfl
@[simp] theorem putIvLen_din : (putIvLen v s).din = s.din := rfl
@[simp] theorem putIvLen_dout : (putIvLen v s).dout = s.dout := rfl
@[simp] theorem putIvLen_ks : (putIvLen v s).ks = s.ks := rfl
@[simp] theorem putIvLen_pend : (putIvLen v s).pend = s.pend := rfl
@[simp] theorem putIvLen_delay : (putIvLen v s).delay = s.delay := rfl
@[simp] theorem putIvLen_host : (putIvLen v s).host = s.host := rfl
@[simp] theorem putIvLen_response : (putIvLen v s).response = s.response := rfl
@[simp] theorem putIvLen_draws : (putIvLen v s).draws = s.draws := rfl
end

section
variable (v : Word) (s : State)
@[simp] theorem putGfOps_ctrlMode : (putGfOps v s).ctrlMode = s.ctrlMode := rfl
@[simp] theorem putGfOps_ctrlDir : (putGfOps v s).ctrlDir = s.ctrlDir := rfl
@[simp] theorem putGfOps_ctrlKsz : (putGfOps v s).ctrlKsz = s.ctrlKsz := rfl
@[simp] theorem putGfOps_ctrlIe : (putGfOps v s).ctrlIe = s.ctrlIe := rfl
@[simp] theorem putGfOps_busy : (putGfOps v s).busy = s.busy := rfl
@[simp] theorem putGfOps_ksValid : (putGfOps v s).ksValid = s.ksValid := rfl
@[simp] theorem putGfOps_modeValid : (putGfOps v s).modeValid = s.modeValid := rfl
@[simp] theorem putGfOps_ovr : (putGfOps v s).ovr = s.ovr := rfl
@[simp] theorem putGfOps_doneFlag : (putGfOps v s).doneFlag = s.doneFlag := rfl
@[simp] theorem putGfOps_err : (putGfOps v s).err = s.err := rfl
@[simp] theorem putGfOps_outLen : (putGfOps v s).outLen = s.outLen := rfl
@[simp] theorem putGfOps_keyLen : (putGfOps v s).keyLen = s.keyLen := rfl
@[simp] theorem putGfOps_ivLen : (putGfOps v s).ivLen = s.ivLen := rfl
@[simp] theorem putGfOps_gfA : (putGfOps v s).gfA = v.extractLsb' 0 8 := rfl
@[simp] theorem putGfOps_gfB : (putGfOps v s).gfB = v.extractLsb' 8 8 := rfl
@[simp] theorem putGfOps_gfRes : (putGfOps v s).gfRes = s.gfRes := rfl
@[simp] theorem putGfOps_nk : (putGfOps v s).nk = s.nk := rfl
@[simp] theorem putGfOps_nr : (putGfOps v s).nr = s.nr := rfl
@[simp] theorem putGfOps_modeR : (putGfOps v s).modeR = s.modeR := rfl
@[simp] theorem putGfOps_dirR : (putGfOps v s).dirR = s.dirR := rfl
@[simp] theorem putGfOps_key : (putGfOps v s).key = s.key := rfl
@[simp] theorem putGfOps_iv : (putGfOps v s).iv = s.iv := rfl
@[simp] theorem putGfOps_fb : (putGfOps v s).fb = s.fb := rfl
@[simp] theorem putGfOps_stateReg : (putGfOps v s).stateReg = s.stateReg := rfl
@[simp] theorem putGfOps_din : (putGfOps v s).din = s.din := rfl
@[simp] theorem putGfOps_dout : (putGfOps v s).dout = s.dout := rfl
@[simp] theorem putGfOps_ks : (putGfOps v s).ks = s.ks := rfl
@[simp] theorem putGfOps_pend : (putGfOps v s).pend = s.pend := rfl
@[simp] theorem putGfOps_delay : (putGfOps v s).delay = s.delay := rfl
@[simp] theorem putGfOps_host : (putGfOps v s).host = s.host := rfl
@[simp] theorem putGfOps_response : (putGfOps v s).response = s.response := rfl
@[simp] theorem putGfOps_draws : (putGfOps v s).draws = s.draws := rfl
end

section
variable (i : Fin 8) (v : Word) (s : State)
@[simp] theorem putKeyWord_ctrlMode : (putKeyWord i v s).ctrlMode = s.ctrlMode := rfl
@[simp] theorem putKeyWord_ctrlDir : (putKeyWord i v s).ctrlDir = s.ctrlDir := rfl
@[simp] theorem putKeyWord_ctrlKsz : (putKeyWord i v s).ctrlKsz = s.ctrlKsz := rfl
@[simp] theorem putKeyWord_ctrlIe : (putKeyWord i v s).ctrlIe = s.ctrlIe := rfl
@[simp] theorem putKeyWord_busy : (putKeyWord i v s).busy = s.busy := rfl
@[simp] theorem putKeyWord_ksValid : (putKeyWord i v s).ksValid = s.ksValid := rfl
@[simp] theorem putKeyWord_modeValid : (putKeyWord i v s).modeValid = s.modeValid := rfl
@[simp] theorem putKeyWord_ovr : (putKeyWord i v s).ovr = s.ovr := rfl
@[simp] theorem putKeyWord_doneFlag : (putKeyWord i v s).doneFlag = s.doneFlag := rfl
@[simp] theorem putKeyWord_err : (putKeyWord i v s).err = s.err := rfl
@[simp] theorem putKeyWord_outLen : (putKeyWord i v s).outLen = s.outLen := rfl
@[simp] theorem putKeyWord_keyLen : (putKeyWord i v s).keyLen = s.keyLen := rfl
@[simp] theorem putKeyWord_ivLen : (putKeyWord i v s).ivLen = s.ivLen := rfl
@[simp] theorem putKeyWord_gfA : (putKeyWord i v s).gfA = s.gfA := rfl
@[simp] theorem putKeyWord_gfB : (putKeyWord i v s).gfB = s.gfB := rfl
@[simp] theorem putKeyWord_gfRes : (putKeyWord i v s).gfRes = s.gfRes := rfl
@[simp] theorem putKeyWord_nk : (putKeyWord i v s).nk = s.nk := rfl
@[simp] theorem putKeyWord_nr : (putKeyWord i v s).nr = s.nr := rfl
@[simp] theorem putKeyWord_modeR : (putKeyWord i v s).modeR = s.modeR := rfl
@[simp] theorem putKeyWord_dirR : (putKeyWord i v s).dirR = s.dirR := rfl
@[simp] theorem putKeyWord_key : (putKeyWord i v s).key = s.key.set i (colOfLe32 v) := rfl
@[simp] theorem putKeyWord_iv : (putKeyWord i v s).iv = s.iv := rfl
@[simp] theorem putKeyWord_fb : (putKeyWord i v s).fb = s.fb := rfl
@[simp] theorem putKeyWord_stateReg : (putKeyWord i v s).stateReg = s.stateReg := rfl
@[simp] theorem putKeyWord_din : (putKeyWord i v s).din = s.din := rfl
@[simp] theorem putKeyWord_dout : (putKeyWord i v s).dout = s.dout := rfl
@[simp] theorem putKeyWord_ks : (putKeyWord i v s).ks = s.ks := rfl
@[simp] theorem putKeyWord_pend : (putKeyWord i v s).pend = s.pend := rfl
@[simp] theorem putKeyWord_delay : (putKeyWord i v s).delay = s.delay := rfl
@[simp] theorem putKeyWord_host : (putKeyWord i v s).host = s.host := rfl
@[simp] theorem putKeyWord_response : (putKeyWord i v s).response = s.response := rfl
@[simp] theorem putKeyWord_draws : (putKeyWord i v s).draws = s.draws := rfl
end

section
variable (k : Fin 4) (v : Word) (s : State)
@[simp] theorem putIvWord_ctrlMode : (putIvWord k v s).ctrlMode = s.ctrlMode := rfl
@[simp] theorem putIvWord_ctrlDir : (putIvWord k v s).ctrlDir = s.ctrlDir := rfl
@[simp] theorem putIvWord_ctrlKsz : (putIvWord k v s).ctrlKsz = s.ctrlKsz := rfl
@[simp] theorem putIvWord_ctrlIe : (putIvWord k v s).ctrlIe = s.ctrlIe := rfl
@[simp] theorem putIvWord_busy : (putIvWord k v s).busy = s.busy := rfl
@[simp] theorem putIvWord_ksValid : (putIvWord k v s).ksValid = s.ksValid := rfl
@[simp] theorem putIvWord_modeValid : (putIvWord k v s).modeValid = s.modeValid := rfl
@[simp] theorem putIvWord_ovr : (putIvWord k v s).ovr = s.ovr := rfl
@[simp] theorem putIvWord_doneFlag : (putIvWord k v s).doneFlag = s.doneFlag := rfl
@[simp] theorem putIvWord_err : (putIvWord k v s).err = s.err := rfl
@[simp] theorem putIvWord_outLen : (putIvWord k v s).outLen = s.outLen := rfl
@[simp] theorem putIvWord_keyLen : (putIvWord k v s).keyLen = s.keyLen := rfl
@[simp] theorem putIvWord_ivLen : (putIvWord k v s).ivLen = s.ivLen := rfl
@[simp] theorem putIvWord_gfA : (putIvWord k v s).gfA = s.gfA := rfl
@[simp] theorem putIvWord_gfB : (putIvWord k v s).gfB = s.gfB := rfl
@[simp] theorem putIvWord_gfRes : (putIvWord k v s).gfRes = s.gfRes := rfl
@[simp] theorem putIvWord_nk : (putIvWord k v s).nk = s.nk := rfl
@[simp] theorem putIvWord_nr : (putIvWord k v s).nr = s.nr := rfl
@[simp] theorem putIvWord_modeR : (putIvWord k v s).modeR = s.modeR := rfl
@[simp] theorem putIvWord_dirR : (putIvWord k v s).dirR = s.dirR := rfl
@[simp] theorem putIvWord_key : (putIvWord k v s).key = s.key := rfl
@[simp] theorem putIvWord_iv : (putIvWord k v s).iv = setBlockCol s.iv k (colOfLe32 v) := rfl
@[simp] theorem putIvWord_fb : (putIvWord k v s).fb = s.fb := rfl
@[simp] theorem putIvWord_stateReg : (putIvWord k v s).stateReg = s.stateReg := rfl
@[simp] theorem putIvWord_din : (putIvWord k v s).din = s.din := rfl
@[simp] theorem putIvWord_dout : (putIvWord k v s).dout = s.dout := rfl
@[simp] theorem putIvWord_ks : (putIvWord k v s).ks = s.ks := rfl
@[simp] theorem putIvWord_pend : (putIvWord k v s).pend = s.pend := rfl
@[simp] theorem putIvWord_delay : (putIvWord k v s).delay = s.delay := rfl
@[simp] theorem putIvWord_host : (putIvWord k v s).host = s.host := rfl
@[simp] theorem putIvWord_response : (putIvWord k v s).response = s.response := rfl
@[simp] theorem putIvWord_draws : (putIvWord k v s).draws = s.draws := rfl
end

section
variable (k : Fin 4) (v : Word) (s : State)
@[simp] theorem putStateWord_ctrlMode : (putStateWord k v s).ctrlMode = s.ctrlMode := rfl
@[simp] theorem putStateWord_ctrlDir : (putStateWord k v s).ctrlDir = s.ctrlDir := rfl
@[simp] theorem putStateWord_ctrlKsz : (putStateWord k v s).ctrlKsz = s.ctrlKsz := rfl
@[simp] theorem putStateWord_ctrlIe : (putStateWord k v s).ctrlIe = s.ctrlIe := rfl
@[simp] theorem putStateWord_busy : (putStateWord k v s).busy = s.busy := rfl
@[simp] theorem putStateWord_ksValid : (putStateWord k v s).ksValid = s.ksValid := rfl
@[simp] theorem putStateWord_modeValid : (putStateWord k v s).modeValid = s.modeValid := rfl
@[simp] theorem putStateWord_ovr : (putStateWord k v s).ovr = s.ovr := rfl
@[simp] theorem putStateWord_doneFlag : (putStateWord k v s).doneFlag = s.doneFlag := rfl
@[simp] theorem putStateWord_err : (putStateWord k v s).err = s.err := rfl
@[simp] theorem putStateWord_outLen : (putStateWord k v s).outLen = s.outLen := rfl
@[simp] theorem putStateWord_keyLen : (putStateWord k v s).keyLen = s.keyLen := rfl
@[simp] theorem putStateWord_ivLen : (putStateWord k v s).ivLen = s.ivLen := rfl
@[simp] theorem putStateWord_gfA : (putStateWord k v s).gfA = s.gfA := rfl
@[simp] theorem putStateWord_gfB : (putStateWord k v s).gfB = s.gfB := rfl
@[simp] theorem putStateWord_gfRes : (putStateWord k v s).gfRes = s.gfRes := rfl
@[simp] theorem putStateWord_nk : (putStateWord k v s).nk = s.nk := rfl
@[simp] theorem putStateWord_nr : (putStateWord k v s).nr = s.nr := rfl
@[simp] theorem putStateWord_modeR : (putStateWord k v s).modeR = s.modeR := rfl
@[simp] theorem putStateWord_dirR : (putStateWord k v s).dirR = s.dirR := rfl
@[simp] theorem putStateWord_key : (putStateWord k v s).key = s.key := rfl
@[simp] theorem putStateWord_iv : (putStateWord k v s).iv = s.iv := rfl
@[simp] theorem putStateWord_fb : (putStateWord k v s).fb = s.fb := rfl
@[simp] theorem putStateWord_stateReg : (putStateWord k v s).stateReg = setBlockCol s.stateReg k (colOfLe32 v) := rfl
@[simp] theorem putStateWord_din : (putStateWord k v s).din = s.din := rfl
@[simp] theorem putStateWord_dout : (putStateWord k v s).dout = s.dout := rfl
@[simp] theorem putStateWord_ks : (putStateWord k v s).ks = s.ks := rfl
@[simp] theorem putStateWord_pend : (putStateWord k v s).pend = s.pend := rfl
@[simp] theorem putStateWord_delay : (putStateWord k v s).delay = s.delay := rfl
@[simp] theorem putStateWord_host : (putStateWord k v s).host = s.host := rfl
@[simp] theorem putStateWord_response : (putStateWord k v s).response = s.response := rfl
@[simp] theorem putStateWord_draws : (putStateWord k v s).draws = s.draws := rfl
end

section
variable (k : Fin 4) (v : Word) (s : State)
@[simp] theorem putDinWord_ctrlMode : (putDinWord k v s).ctrlMode = s.ctrlMode := rfl
@[simp] theorem putDinWord_ctrlDir : (putDinWord k v s).ctrlDir = s.ctrlDir := rfl
@[simp] theorem putDinWord_ctrlKsz : (putDinWord k v s).ctrlKsz = s.ctrlKsz := rfl
@[simp] theorem putDinWord_ctrlIe : (putDinWord k v s).ctrlIe = s.ctrlIe := rfl
@[simp] theorem putDinWord_busy : (putDinWord k v s).busy = s.busy := rfl
@[simp] theorem putDinWord_ksValid : (putDinWord k v s).ksValid = s.ksValid := rfl
@[simp] theorem putDinWord_modeValid : (putDinWord k v s).modeValid = s.modeValid := rfl
@[simp] theorem putDinWord_ovr : (putDinWord k v s).ovr = s.ovr := rfl
@[simp] theorem putDinWord_doneFlag : (putDinWord k v s).doneFlag = s.doneFlag := rfl
@[simp] theorem putDinWord_err : (putDinWord k v s).err = s.err := rfl
@[simp] theorem putDinWord_outLen : (putDinWord k v s).outLen = s.outLen := rfl
@[simp] theorem putDinWord_keyLen : (putDinWord k v s).keyLen = s.keyLen := rfl
@[simp] theorem putDinWord_ivLen : (putDinWord k v s).ivLen = s.ivLen := rfl
@[simp] theorem putDinWord_gfA : (putDinWord k v s).gfA = s.gfA := rfl
@[simp] theorem putDinWord_gfB : (putDinWord k v s).gfB = s.gfB := rfl
@[simp] theorem putDinWord_gfRes : (putDinWord k v s).gfRes = s.gfRes := rfl
@[simp] theorem putDinWord_nk : (putDinWord k v s).nk = s.nk := rfl
@[simp] theorem putDinWord_nr : (putDinWord k v s).nr = s.nr := rfl
@[simp] theorem putDinWord_modeR : (putDinWord k v s).modeR = s.modeR := rfl
@[simp] theorem putDinWord_dirR : (putDinWord k v s).dirR = s.dirR := rfl
@[simp] theorem putDinWord_key : (putDinWord k v s).key = s.key := rfl
@[simp] theorem putDinWord_iv : (putDinWord k v s).iv = s.iv := rfl
@[simp] theorem putDinWord_fb : (putDinWord k v s).fb = s.fb := rfl
@[simp] theorem putDinWord_stateReg : (putDinWord k v s).stateReg = s.stateReg := rfl
@[simp] theorem putDinWord_din : (putDinWord k v s).din = setBlockCol s.din k (colOfLe32 v) := rfl
@[simp] theorem putDinWord_dout : (putDinWord k v s).dout = s.dout := rfl
@[simp] theorem putDinWord_ks : (putDinWord k v s).ks = s.ks := rfl
@[simp] theorem putDinWord_pend : (putDinWord k v s).pend = s.pend := rfl
@[simp] theorem putDinWord_delay : (putDinWord k v s).delay = s.delay := rfl
@[simp] theorem putDinWord_host : (putDinWord k v s).host = s.host := rfl
@[simp] theorem putDinWord_response : (putDinWord k v s).response = s.response := rfl
@[simp] theorem putDinWord_draws : (putDinWord k v s).draws = s.draws := rfl
end

section
variable (b : Block) (s : State)
@[simp] theorem putState_ctrlMode : (putState b s).ctrlMode = s.ctrlMode := rfl
@[simp] theorem putState_ctrlDir : (putState b s).ctrlDir = s.ctrlDir := rfl
@[simp] theorem putState_ctrlKsz : (putState b s).ctrlKsz = s.ctrlKsz := rfl
@[simp] theorem putState_ctrlIe : (putState b s).ctrlIe = s.ctrlIe := rfl
@[simp] theorem putState_busy : (putState b s).busy = s.busy := rfl
@[simp] theorem putState_ksValid : (putState b s).ksValid = s.ksValid := rfl
@[simp] theorem putState_modeValid : (putState b s).modeValid = s.modeValid := rfl
@[simp] theorem putState_ovr : (putState b s).ovr = s.ovr := rfl
@[simp] theorem putState_doneFlag : (putState b s).doneFlag = s.doneFlag := rfl
@[simp] theorem putState_err : (putState b s).err = s.err := rfl
@[simp] theorem putState_outLen : (putState b s).outLen = s.outLen := rfl
@[simp] theorem putState_keyLen : (putState b s).keyLen = s.keyLen := rfl
@[simp] theorem putState_ivLen : (putState b s).ivLen = s.ivLen := rfl
@[simp] theorem putState_gfA : (putState b s).gfA = s.gfA := rfl
@[simp] theorem putState_gfB : (putState b s).gfB = s.gfB := rfl
@[simp] theorem putState_gfRes : (putState b s).gfRes = s.gfRes := rfl
@[simp] theorem putState_nk : (putState b s).nk = s.nk := rfl
@[simp] theorem putState_nr : (putState b s).nr = s.nr := rfl
@[simp] theorem putState_modeR : (putState b s).modeR = s.modeR := rfl
@[simp] theorem putState_dirR : (putState b s).dirR = s.dirR := rfl
@[simp] theorem putState_key : (putState b s).key = s.key := rfl
@[simp] theorem putState_iv : (putState b s).iv = s.iv := rfl
@[simp] theorem putState_fb : (putState b s).fb = s.fb := rfl
@[simp] theorem putState_stateReg : (putState b s).stateReg = b := rfl
@[simp] theorem putState_din : (putState b s).din = s.din := rfl
@[simp] theorem putState_dout : (putState b s).dout = s.dout := rfl
@[simp] theorem putState_ks : (putState b s).ks = s.ks := rfl
@[simp] theorem putState_pend : (putState b s).pend = s.pend := rfl
@[simp] theorem putState_delay : (putState b s).delay = s.delay := rfl
@[simp] theorem putState_host : (putState b s).host = s.host := rfl
@[simp] theorem putState_response : (putState b s).response = s.response := rfl
@[simp] theorem putState_draws : (putState b s).draws = s.draws := rfl
end

section
variable (v : Byte) (s : State)
@[simp] theorem putGfRes_ctrlMode : (putGfRes v s).ctrlMode = s.ctrlMode := rfl
@[simp] theorem putGfRes_ctrlDir : (putGfRes v s).ctrlDir = s.ctrlDir := rfl
@[simp] theorem putGfRes_ctrlKsz : (putGfRes v s).ctrlKsz = s.ctrlKsz := rfl
@[simp] theorem putGfRes_ctrlIe : (putGfRes v s).ctrlIe = s.ctrlIe := rfl
@[simp] theorem putGfRes_busy : (putGfRes v s).busy = s.busy := rfl
@[simp] theorem putGfRes_ksValid : (putGfRes v s).ksValid = s.ksValid := rfl
@[simp] theorem putGfRes_modeValid : (putGfRes v s).modeValid = s.modeValid := rfl
@[simp] theorem putGfRes_ovr : (putGfRes v s).ovr = s.ovr := rfl
@[simp] theorem putGfRes_doneFlag : (putGfRes v s).doneFlag = s.doneFlag := rfl
@[simp] theorem putGfRes_err : (putGfRes v s).err = s.err := rfl
@[simp] theorem putGfRes_outLen : (putGfRes v s).outLen = s.outLen := rfl
@[simp] theorem putGfRes_keyLen : (putGfRes v s).keyLen = s.keyLen := rfl
@[simp] theorem putGfRes_ivLen : (putGfRes v s).ivLen = s.ivLen := rfl
@[simp] theorem putGfRes_gfA : (putGfRes v s).gfA = s.gfA := rfl
@[simp] theorem putGfRes_gfB : (putGfRes v s).gfB = s.gfB := rfl
@[simp] theorem putGfRes_gfRes : (putGfRes v s).gfRes = v := rfl
@[simp] theorem putGfRes_nk : (putGfRes v s).nk = s.nk := rfl
@[simp] theorem putGfRes_nr : (putGfRes v s).nr = s.nr := rfl
@[simp] theorem putGfRes_modeR : (putGfRes v s).modeR = s.modeR := rfl
@[simp] theorem putGfRes_dirR : (putGfRes v s).dirR = s.dirR := rfl
@[simp] theorem putGfRes_key : (putGfRes v s).key = s.key := rfl
@[simp] theorem putGfRes_iv : (putGfRes v s).iv = s.iv := rfl
@[simp] theorem putGfRes_fb : (putGfRes v s).fb = s.fb := rfl
@[simp] theorem putGfRes_stateReg : (putGfRes v s).stateReg = s.stateReg := rfl
@[simp] theorem putGfRes_din : (putGfRes v s).din = s.din := rfl
@[simp] theorem putGfRes_dout : (putGfRes v s).dout = s.dout := rfl
@[simp] theorem putGfRes_ks : (putGfRes v s).ks = s.ks := rfl
@[simp] theorem putGfRes_pend : (putGfRes v s).pend = s.pend := rfl
@[simp] theorem putGfRes_delay : (putGfRes v s).delay = s.delay := rfl
@[simp] theorem putGfRes_host : (putGfRes v s).host = s.host := rfl
@[simp] theorem putGfRes_response : (putGfRes v s).response = s.response := rfl
@[simp] theorem putGfRes_draws : (putGfRes v s).draws = s.draws := rfl
end

section
variable (z : Nat) (w : Vector Col 60) (s : State)
@[simp] theorem putSchedule_ctrlMode : (putSchedule z w s).ctrlMode = s.ctrlMode := rfl
@[simp] theorem putSchedule_ctrlDir : (putSchedule z w s).ctrlDir = s.ctrlDir := rfl
@[simp] theorem putSchedule_ctrlKsz : (putSchedule z w s).ctrlKsz = s.ctrlKsz := rfl
@[simp] theorem putSchedule_ctrlIe : (putSchedule z w s).ctrlIe = s.ctrlIe := rfl
@[simp] theorem putSchedule_busy : (putSchedule z w s).busy = s.busy := rfl
@[simp] theorem putSchedule_ksValid : (putSchedule z w s).ksValid = true := rfl
@[simp] theorem putSchedule_modeValid : (putSchedule z w s).modeValid = false := rfl
@[simp] theorem putSchedule_ovr : (putSchedule z w s).ovr = s.ovr := rfl
@[simp] theorem putSchedule_doneFlag : (putSchedule z w s).doneFlag = s.doneFlag := rfl
@[simp] theorem putSchedule_err : (putSchedule z w s).err = s.err := rfl
@[simp] theorem putSchedule_outLen : (putSchedule z w s).outLen = s.outLen := rfl
@[simp] theorem putSchedule_keyLen : (putSchedule z w s).keyLen = s.keyLen := rfl
@[simp] theorem putSchedule_ivLen : (putSchedule z w s).ivLen = s.ivLen := rfl
@[simp] theorem putSchedule_gfA : (putSchedule z w s).gfA = s.gfA := rfl
@[simp] theorem putSchedule_gfB : (putSchedule z w s).gfB = s.gfB := rfl
@[simp] theorem putSchedule_gfRes : (putSchedule z w s).gfRes = s.gfRes := rfl
@[simp] theorem putSchedule_nk : (putSchedule z w s).nk = BitVec.ofNat 4 (nkOf z) := rfl
@[simp] theorem putSchedule_nr : (putSchedule z w s).nr = BitVec.ofNat 4 (nrOf z) := rfl
@[simp] theorem putSchedule_modeR : (putSchedule z w s).modeR = s.modeR := rfl
@[simp] theorem putSchedule_dirR : (putSchedule z w s).dirR = s.dirR := rfl
@[simp] theorem putSchedule_key : (putSchedule z w s).key = s.key := rfl
@[simp] theorem putSchedule_iv : (putSchedule z w s).iv = s.iv := rfl
@[simp] theorem putSchedule_fb : (putSchedule z w s).fb = s.fb := rfl
@[simp] theorem putSchedule_stateReg : (putSchedule z w s).stateReg = s.stateReg := rfl
@[simp] theorem putSchedule_din : (putSchedule z w s).din = s.din := rfl
@[simp] theorem putSchedule_dout : (putSchedule z w s).dout = s.dout := rfl
@[simp] theorem putSchedule_ks : (putSchedule z w s).ks = w := rfl
@[simp] theorem putSchedule_pend : (putSchedule z w s).pend = s.pend := rfl
@[simp] theorem putSchedule_delay : (putSchedule z w s).delay = s.delay := rfl
@[simp] theorem putSchedule_host : (putSchedule z w s).host = s.host := rfl
@[simp] theorem putSchedule_response : (putSchedule z w s).response = s.response := rfl
@[simp] theorem putSchedule_draws : (putSchedule z w s).draws = s.draws := rfl
end

section
variable (m : BlockMode) (d : Direction) (b : Block) (s : State)
@[simp] theorem putTransform_ctrlMode : (putTransform m d b s).ctrlMode = s.ctrlMode := rfl
@[simp] theorem putTransform_ctrlDir : (putTransform m d b s).ctrlDir = s.ctrlDir := rfl
@[simp] theorem putTransform_ctrlKsz : (putTransform m d b s).ctrlKsz = s.ctrlKsz := rfl
@[simp] theorem putTransform_ctrlIe : (putTransform m d b s).ctrlIe = s.ctrlIe := rfl
@[simp] theorem putTransform_busy : (putTransform m d b s).busy = s.busy := rfl
@[simp] theorem putTransform_ksValid : (putTransform m d b s).ksValid = s.ksValid := rfl
@[simp] theorem putTransform_modeValid : (putTransform m d b s).modeValid = true := rfl
@[simp] theorem putTransform_ovr : (putTransform m d b s).ovr = s.ovr := rfl
@[simp] theorem putTransform_doneFlag : (putTransform m d b s).doneFlag = s.doneFlag := rfl
@[simp] theorem putTransform_err : (putTransform m d b s).err = s.err := rfl
@[simp] theorem putTransform_outLen : (putTransform m d b s).outLen = s.outLen := rfl
@[simp] theorem putTransform_keyLen : (putTransform m d b s).keyLen = s.keyLen := rfl
@[simp] theorem putTransform_ivLen : (putTransform m d b s).ivLen = s.ivLen := rfl
@[simp] theorem putTransform_gfA : (putTransform m d b s).gfA = s.gfA := rfl
@[simp] theorem putTransform_gfB : (putTransform m d b s).gfB = s.gfB := rfl
@[simp] theorem putTransform_gfRes : (putTransform m d b s).gfRes = s.gfRes := rfl
@[simp] theorem putTransform_nk : (putTransform m d b s).nk = s.nk := rfl
@[simp] theorem putTransform_nr : (putTransform m d b s).nr = s.nr := rfl
@[simp] theorem putTransform_modeR : (putTransform m d b s).modeR = m := rfl
@[simp] theorem putTransform_dirR : (putTransform m d b s).dirR = d := rfl
@[simp] theorem putTransform_key : (putTransform m d b s).key = s.key := rfl
@[simp] theorem putTransform_iv : (putTransform m d b s).iv = s.iv := rfl
@[simp] theorem putTransform_fb : (putTransform m d b s).fb = b := rfl
@[simp] theorem putTransform_stateReg : (putTransform m d b s).stateReg = s.stateReg := rfl
@[simp] theorem putTransform_din : (putTransform m d b s).din = s.din := rfl
@[simp] theorem putTransform_dout : (putTransform m d b s).dout = s.dout := rfl
@[simp] theorem putTransform_ks : (putTransform m d b s).ks = s.ks := rfl
@[simp] theorem putTransform_pend : (putTransform m d b s).pend = s.pend := rfl
@[simp] theorem putTransform_delay : (putTransform m d b s).delay = s.delay := rfl
@[simp] theorem putTransform_host : (putTransform m d b s).host = s.host := rfl
@[simp] theorem putTransform_response : (putTransform m d b s).response = s.response := rfl
@[simp] theorem putTransform_draws : (putTransform m d b s).draws = s.draws := rfl
end

section
variable (d : Block) (n : Nat) (b : Block) (s : State)
@[simp] theorem putOutput_ctrlMode : (putOutput d n b s).ctrlMode = s.ctrlMode := rfl
@[simp] theorem putOutput_ctrlDir : (putOutput d n b s).ctrlDir = s.ctrlDir := rfl
@[simp] theorem putOutput_ctrlKsz : (putOutput d n b s).ctrlKsz = s.ctrlKsz := rfl
@[simp] theorem putOutput_ctrlIe : (putOutput d n b s).ctrlIe = s.ctrlIe := rfl
@[simp] theorem putOutput_busy : (putOutput d n b s).busy = s.busy := rfl
@[simp] theorem putOutput_ksValid : (putOutput d n b s).ksValid = s.ksValid := rfl
@[simp] theorem putOutput_modeValid : (putOutput d n b s).modeValid = s.modeValid := rfl
@[simp] theorem putOutput_ovr : (putOutput d n b s).ovr = s.ovr := rfl
@[simp] theorem putOutput_doneFlag : (putOutput d n b s).doneFlag = s.doneFlag := rfl
@[simp] theorem putOutput_err : (putOutput d n b s).err = s.err := rfl
@[simp] theorem putOutput_outLen : (putOutput d n b s).outLen = BitVec.ofNat 5 n := rfl
@[simp] theorem putOutput_keyLen : (putOutput d n b s).keyLen = s.keyLen := rfl
@[simp] theorem putOutput_ivLen : (putOutput d n b s).ivLen = s.ivLen := rfl
@[simp] theorem putOutput_gfA : (putOutput d n b s).gfA = s.gfA := rfl
@[simp] theorem putOutput_gfB : (putOutput d n b s).gfB = s.gfB := rfl
@[simp] theorem putOutput_gfRes : (putOutput d n b s).gfRes = s.gfRes := rfl
@[simp] theorem putOutput_nk : (putOutput d n b s).nk = s.nk := rfl
@[simp] theorem putOutput_nr : (putOutput d n b s).nr = s.nr := rfl
@[simp] theorem putOutput_modeR : (putOutput d n b s).modeR = s.modeR := rfl
@[simp] theorem putOutput_dirR : (putOutput d n b s).dirR = s.dirR := rfl
@[simp] theorem putOutput_key : (putOutput d n b s).key = s.key := rfl
@[simp] theorem putOutput_iv : (putOutput d n b s).iv = s.iv := rfl
@[simp] theorem putOutput_fb : (putOutput d n b s).fb = b := rfl
@[simp] theorem putOutput_stateReg : (putOutput d n b s).stateReg = s.stateReg := rfl
@[simp] theorem putOutput_din : (putOutput d n b s).din = s.din := rfl
@[simp] theorem putOutput_dout : (putOutput d n b s).dout = d := rfl
@[simp] theorem putOutput_ks : (putOutput d n b s).ks = s.ks := rfl
@[simp] theorem putOutput_pend : (putOutput d n b s).pend = s.pend := rfl
@[simp] theorem putOutput_delay : (putOutput d n b s).delay = s.delay := rfl
@[simp] theorem putOutput_host : (putOutput d n b s).host = s.host := rfl
@[simp] theorem putOutput_response : (putOutput d n b s).response = s.response := rfl
@[simp] theorem putOutput_draws : (putOutput d n b s).draws = s.draws := rfl
end

section
variable (s : State)
@[simp] theorem clearData_ctrlMode : (clearData s).ctrlMode = s.ctrlMode := rfl
@[simp] theorem clearData_ctrlDir : (clearData s).ctrlDir = s.ctrlDir := rfl
@[simp] theorem clearData_ctrlKsz : (clearData s).ctrlKsz = s.ctrlKsz := rfl
@[simp] theorem clearData_ctrlIe : (clearData s).ctrlIe = s.ctrlIe := rfl
@[simp] theorem clearData_busy : (clearData s).busy = s.busy := rfl
@[simp] theorem clearData_ksValid : (clearData s).ksValid = false := rfl
@[simp] theorem clearData_modeValid : (clearData s).modeValid = false := rfl
@[simp] theorem clearData_ovr : (clearData s).ovr = s.ovr := rfl
@[simp] theorem clearData_doneFlag : (clearData s).doneFlag = s.doneFlag := rfl
@[simp] theorem clearData_err : (clearData s).err = s.err := rfl
@[simp] theorem clearData_outLen : (clearData s).outLen = 0 := rfl
@[simp] theorem clearData_keyLen : (clearData s).keyLen = s.keyLen := rfl
@[simp] theorem clearData_ivLen : (clearData s).ivLen = s.ivLen := rfl
@[simp] theorem clearData_gfA : (clearData s).gfA = 0 := rfl
@[simp] theorem clearData_gfB : (clearData s).gfB = 0 := rfl
@[simp] theorem clearData_gfRes : (clearData s).gfRes = 0 := rfl
@[simp] theorem clearData_nk : (clearData s).nk = 0 := rfl
@[simp] theorem clearData_nr : (clearData s).nr = 0 := rfl
@[simp] theorem clearData_modeR : (clearData s).modeR = .ecb := rfl
@[simp] theorem clearData_dirR : (clearData s).dirR = .encrypt := rfl
@[simp] theorem clearData_key : (clearData s).key = Vector.replicate 8 Col.zero := rfl
@[simp] theorem clearData_iv : (clearData s).iv = Block.zero := rfl
@[simp] theorem clearData_fb : (clearData s).fb = Block.zero := rfl
@[simp] theorem clearData_stateReg : (clearData s).stateReg = Block.zero := rfl
@[simp] theorem clearData_din : (clearData s).din = Block.zero := rfl
@[simp] theorem clearData_dout : (clearData s).dout = Block.zero := rfl
@[simp] theorem clearData_ks : (clearData s).ks = Vector.replicate 60 Col.zero := rfl
@[simp] theorem clearData_pend : (clearData s).pend = s.pend := rfl
@[simp] theorem clearData_delay : (clearData s).delay = s.delay := rfl
@[simp] theorem clearData_host : (clearData s).host = s.host := rfl
@[simp] theorem clearData_response : (clearData s).response = s.response := rfl
@[simp] theorem clearData_draws : (clearData s).draws = s.draws := rfl
end

section
variable (a : BusResponse) (s : State)
@[simp] theorem respond_ctrlMode : (respond a s).ctrlMode = s.ctrlMode := rfl
@[simp] theorem respond_ctrlDir : (respond a s).ctrlDir = s.ctrlDir := rfl
@[simp] theorem respond_ctrlKsz : (respond a s).ctrlKsz = s.ctrlKsz := rfl
@[simp] theorem respond_ctrlIe : (respond a s).ctrlIe = s.ctrlIe := rfl
@[simp] theorem respond_busy : (respond a s).busy = s.busy := rfl
@[simp] theorem respond_ksValid : (respond a s).ksValid = s.ksValid := rfl
@[simp] theorem respond_modeValid : (respond a s).modeValid = s.modeValid := rfl
@[simp] theorem respond_ovr : (respond a s).ovr = s.ovr := rfl
@[simp] theorem respond_doneFlag : (respond a s).doneFlag = s.doneFlag := rfl
@[simp] theorem respond_err : (respond a s).err = s.err := rfl
@[simp] theorem respond_outLen : (respond a s).outLen = s.outLen := rfl
@[simp] theorem respond_keyLen : (respond a s).keyLen = s.keyLen := rfl
@[simp] theorem respond_ivLen : (respond a s).ivLen = s.ivLen := rfl
@[simp] theorem respond_gfA : (respond a s).gfA = s.gfA := rfl
@[simp] theorem respond_gfB : (respond a s).gfB = s.gfB := rfl
@[simp] theorem respond_gfRes : (respond a s).gfRes = s.gfRes := rfl
@[simp] theorem respond_nk : (respond a s).nk = s.nk := rfl
@[simp] theorem respond_nr : (respond a s).nr = s.nr := rfl
@[simp] theorem respond_modeR : (respond a s).modeR = s.modeR := rfl
@[simp] theorem respond_dirR : (respond a s).dirR = s.dirR := rfl
@[simp] theorem respond_key : (respond a s).key = s.key := rfl
@[simp] theorem respond_iv : (respond a s).iv = s.iv := rfl
@[simp] theorem respond_fb : (respond a s).fb = s.fb := rfl
@[simp] theorem respond_stateReg : (respond a s).stateReg = s.stateReg := rfl
@[simp] theorem respond_din : (respond a s).din = s.din := rfl
@[simp] theorem respond_dout : (respond a s).dout = s.dout := rfl
@[simp] theorem respond_ks : (respond a s).ks = s.ks := rfl
@[simp] theorem respond_pend : (respond a s).pend = s.pend := rfl
@[simp] theorem respond_delay : (respond a s).delay = s.delay := rfl
@[simp] theorem respond_host : (respond a s).host = s.host := rfl
@[simp] theorem respond_response : (respond a s).response = a := rfl
@[simp] theorem respond_draws : (respond a s).draws = s.draws := rfl
end

section
variable (l : List HostEvent) (s : State)
@[simp] theorem nextSlot_ctrlMode : (nextSlot l s).ctrlMode = s.ctrlMode := rfl
@[simp] theorem nextSlot_ctrlDir : (nextSlot l s).ctrlDir = s.ctrlDir := rfl
@[simp] theorem nextSlot_ctrlKsz : (nextSlot l s).ctrlKsz = s.ctrlKsz := rfl
@[simp] theorem nextSlot_ctrlIe : (nextSlot l s).ctrlIe = s.ctrlIe := rfl
@[simp] theorem nextSlot_busy : (nextSlot l s).busy = s.busy := rfl
@[simp] theorem nextSlot_ksValid : (nextSlot l s).ksValid = s.ksValid := rfl
@[simp] theorem nextSlot_modeValid : (nextSlot l s).modeValid = s.modeValid := rfl
@[simp] theorem nextSlot_ovr : (nextSlot l s).ovr = s.ovr := rfl
@[simp] theorem nextSlot_doneFlag : (nextSlot l s).doneFlag = s.doneFlag := rfl
@[simp] theorem nextSlot_err : (nextSlot l s).err = s.err := rfl
@[simp] theorem nextSlot_outLen : (nextSlot l s).outLen = s.outLen := rfl
@[simp] theorem nextSlot_keyLen : (nextSlot l s).keyLen = s.keyLen := rfl
@[simp] theorem nextSlot_ivLen : (nextSlot l s).ivLen = s.ivLen := rfl
@[simp] theorem nextSlot_gfA : (nextSlot l s).gfA = s.gfA := rfl
@[simp] theorem nextSlot_gfB : (nextSlot l s).gfB = s.gfB := rfl
@[simp] theorem nextSlot_gfRes : (nextSlot l s).gfRes = s.gfRes := rfl
@[simp] theorem nextSlot_nk : (nextSlot l s).nk = s.nk := rfl
@[simp] theorem nextSlot_nr : (nextSlot l s).nr = s.nr := rfl
@[simp] theorem nextSlot_modeR : (nextSlot l s).modeR = s.modeR := rfl
@[simp] theorem nextSlot_dirR : (nextSlot l s).dirR = s.dirR := rfl
@[simp] theorem nextSlot_key : (nextSlot l s).key = s.key := rfl
@[simp] theorem nextSlot_iv : (nextSlot l s).iv = s.iv := rfl
@[simp] theorem nextSlot_fb : (nextSlot l s).fb = s.fb := rfl
@[simp] theorem nextSlot_stateReg : (nextSlot l s).stateReg = s.stateReg := rfl
@[simp] theorem nextSlot_din : (nextSlot l s).din = s.din := rfl
@[simp] theorem nextSlot_dout : (nextSlot l s).dout = s.dout := rfl
@[simp] theorem nextSlot_ks : (nextSlot l s).ks = s.ks := rfl
@[simp] theorem nextSlot_pend : (nextSlot l s).pend = s.pend := rfl
@[simp] theorem nextSlot_delay : (nextSlot l s).delay = s.delay - 1 := rfl
@[simp] theorem nextSlot_host : (nextSlot l s).host = l := rfl
@[simp] theorem nextSlot_response : (nextSlot l s).response = s.response := rfl
@[simp] theorem nextSlot_draws : (nextSlot l s).draws = s.draws := rfl
end

section
variable (s : State)
@[simp] theorem drawn_ctrlMode : (drawn s).ctrlMode = s.ctrlMode := rfl
@[simp] theorem drawn_ctrlDir : (drawn s).ctrlDir = s.ctrlDir := rfl
@[simp] theorem drawn_ctrlKsz : (drawn s).ctrlKsz = s.ctrlKsz := rfl
@[simp] theorem drawn_ctrlIe : (drawn s).ctrlIe = s.ctrlIe := rfl
@[simp] theorem drawn_busy : (drawn s).busy = s.busy := rfl
@[simp] theorem drawn_ksValid : (drawn s).ksValid = s.ksValid := rfl
@[simp] theorem drawn_modeValid : (drawn s).modeValid = s.modeValid := rfl
@[simp] theorem drawn_ovr : (drawn s).ovr = s.ovr := rfl
@[simp] theorem drawn_doneFlag : (drawn s).doneFlag = s.doneFlag := rfl
@[simp] theorem drawn_err : (drawn s).err = s.err := rfl
@[simp] theorem drawn_outLen : (drawn s).outLen = s.outLen := rfl
@[simp] theorem drawn_keyLen : (drawn s).keyLen = s.keyLen := rfl
@[simp] theorem drawn_ivLen : (drawn s).ivLen = s.ivLen := rfl
@[simp] theorem drawn_gfA : (drawn s).gfA = s.gfA := rfl
@[simp] theorem drawn_gfB : (drawn s).gfB = s.gfB := rfl
@[simp] theorem drawn_gfRes : (drawn s).gfRes = s.gfRes := rfl
@[simp] theorem drawn_nk : (drawn s).nk = s.nk := rfl
@[simp] theorem drawn_nr : (drawn s).nr = s.nr := rfl
@[simp] theorem drawn_modeR : (drawn s).modeR = s.modeR := rfl
@[simp] theorem drawn_dirR : (drawn s).dirR = s.dirR := rfl
@[simp] theorem drawn_key : (drawn s).key = s.key := rfl
@[simp] theorem drawn_iv : (drawn s).iv = s.iv := rfl
@[simp] theorem drawn_fb : (drawn s).fb = s.fb := rfl
@[simp] theorem drawn_stateReg : (drawn s).stateReg = s.stateReg := rfl
@[simp] theorem drawn_din : (drawn s).din = s.din := rfl
@[simp] theorem drawn_dout : (drawn s).dout = s.dout := rfl
@[simp] theorem drawn_ks : (drawn s).ks = s.ks := rfl
@[simp] theorem drawn_pend : (drawn s).pend = s.pend := rfl
@[simp] theorem drawn_delay : (drawn s).delay = s.delay := rfl
@[simp] theorem drawn_host : (drawn s).host = s.host := rfl
@[simp] theorem drawn_response : (drawn s).response = s.response := rfl
@[simp] theorem drawn_draws : (drawn s).draws = s.draws + 1 := rfl
end

section
variable (s : State)
@[simp] theorem overrun_ctrlMode : (overrun s).ctrlMode = s.ctrlMode := rfl
@[simp] theorem overrun_ctrlDir : (overrun s).ctrlDir = s.ctrlDir := rfl
@[simp] theorem overrun_ctrlKsz : (overrun s).ctrlKsz = s.ctrlKsz := rfl
@[simp] theorem overrun_ctrlIe : (overrun s).ctrlIe = s.ctrlIe := rfl
@[simp] theorem overrun_busy : (overrun s).busy = s.busy := rfl
@[simp] theorem overrun_ksValid : (overrun s).ksValid = s.ksValid := rfl
@[simp] theorem overrun_modeValid : (overrun s).modeValid = s.modeValid := rfl
@[simp] theorem overrun_ovr : (overrun s).ovr = true := rfl
@[simp] theorem overrun_doneFlag : (overrun s).doneFlag = s.doneFlag := rfl
@[simp] theorem overrun_err : (overrun s).err = s.err := rfl
@[simp] theorem overrun_outLen : (overrun s).outLen = s.outLen := rfl
@[simp] theorem overrun_keyLen : (overrun s).keyLen = s.keyLen := rfl
@[simp] theorem overrun_ivLen : (overrun s).ivLen = s.ivLen := rfl
@[simp] theorem overrun_gfA : (overrun s).gfA = s.gfA := rfl
@[simp] theorem overrun_gfB : (overrun s).gfB = s.gfB := rfl
@[simp] theorem overrun_gfRes : (overrun s).gfRes = s.gfRes := rfl
@[simp] theorem overrun_nk : (overrun s).nk = s.nk := rfl
@[simp] theorem overrun_nr : (overrun s).nr = s.nr := rfl
@[simp] theorem overrun_modeR : (overrun s).modeR = s.modeR := rfl
@[simp] theorem overrun_dirR : (overrun s).dirR = s.dirR := rfl
@[simp] theorem overrun_key : (overrun s).key = s.key := rfl
@[simp] theorem overrun_iv : (overrun s).iv = s.iv := rfl
@[simp] theorem overrun_fb : (overrun s).fb = s.fb := rfl
@[simp] theorem overrun_stateReg : (overrun s).stateReg = s.stateReg := rfl
@[simp] theorem overrun_din : (overrun s).din = s.din := rfl
@[simp] theorem overrun_dout : (overrun s).dout = s.dout := rfl
@[simp] theorem overrun_ks : (overrun s).ks = s.ks := rfl
@[simp] theorem overrun_pend : (overrun s).pend = s.pend := rfl
@[simp] theorem overrun_delay : (overrun s).delay = s.delay := rfl
@[simp] theorem overrun_host : (overrun s).host = s.host := rfl
@[simp] theorem overrun_response : (overrun s).response = s.response := rfl
@[simp] theorem overrun_draws : (overrun s).draws = s.draws := rfl
end

section
variable (v : Word) (s : State)
@[simp] theorem writeStatus_ctrlMode : (writeStatus v s).ctrlMode = s.ctrlMode := rfl
@[simp] theorem writeStatus_ctrlDir : (writeStatus v s).ctrlDir = s.ctrlDir := rfl
@[simp] theorem writeStatus_ctrlKsz : (writeStatus v s).ctrlKsz = s.ctrlKsz := rfl
@[simp] theorem writeStatus_ctrlIe : (writeStatus v s).ctrlIe = s.ctrlIe := rfl
@[simp] theorem writeStatus_busy : (writeStatus v s).busy = s.busy := rfl
@[simp] theorem writeStatus_ksValid : (writeStatus v s).ksValid = s.ksValid := rfl
@[simp] theorem writeStatus_modeValid : (writeStatus v s).modeValid = s.modeValid := rfl
@[simp] theorem writeStatus_ovr : (writeStatus v s).ovr = (s.ovr && !v.getLsbD 3) := rfl
@[simp] theorem writeStatus_doneFlag : (writeStatus v s).doneFlag = (s.doneFlag && !v.getLsbD 4) := rfl
@[simp] theorem writeStatus_err : (writeStatus v s).err = s.err := rfl
@[simp] theorem writeStatus_outLen : (writeStatus v s).outLen = s.outLen := rfl
@[simp] theorem writeStatus_keyLen : (writeStatus v s).keyLen = s.keyLen := rfl
@[simp] theorem writeStatus_ivLen : (writeStatus v s).ivLen = s.ivLen := rfl
@[simp] theorem writeStatus_gfA : (writeStatus v s).gfA = s.gfA := rfl
@[simp] theorem writeStatus_gfB : (writeStatus v s).gfB = s.gfB := rfl
@[simp] theorem writeStatus_gfRes : (writeStatus v s).gfRes = s.gfRes := rfl
@[simp] theorem writeStatus_nk : (writeStatus v s).nk = s.nk := rfl
@[simp] theorem writeStatus_nr : (writeStatus v s).nr = s.nr := rfl
@[simp] theorem writeStatus_modeR : (writeStatus v s).modeR = s.modeR := rfl
@[simp] theorem writeStatus_dirR : (writeStatus v s).dirR = s.dirR := rfl
@[simp] theorem writeStatus_key : (writeStatus v s).key = s.key := rfl
@[simp] theorem writeStatus_iv : (writeStatus v s).iv = s.iv := rfl
@[simp] theorem writeStatus_fb : (writeStatus v s).fb = s.fb := rfl
@[simp] theorem writeStatus_stateReg : (writeStatus v s).stateReg = s.stateReg := rfl
@[simp] theorem writeStatus_din : (writeStatus v s).din = s.din := rfl
@[simp] theorem writeStatus_dout : (writeStatus v s).dout = s.dout := rfl
@[simp] theorem writeStatus_ks : (writeStatus v s).ks = s.ks := rfl
@[simp] theorem writeStatus_pend : (writeStatus v s).pend = s.pend := rfl
@[simp] theorem writeStatus_delay : (writeStatus v s).delay = s.delay := rfl
@[simp] theorem writeStatus_host : (writeStatus v s).host = s.host := rfl
@[simp] theorem writeStatus_response : (writeStatus v s).response = s.response := rfl
@[simp] theorem writeStatus_draws : (writeStatus v s).draws = s.draws := rfl
end

section
variable (v : Word) (s : State)
@[simp] theorem writeCtrl_ctrlMode : (writeCtrl v s).ctrlMode = v.extractLsb' 0 3 := rfl
@[simp] theorem writeCtrl_ctrlDir : (writeCtrl v s).ctrlDir = dirOfBit (v.getLsbD 3) := rfl
@[simp] theorem writeCtrl_ctrlKsz : (writeCtrl v s).ctrlKsz = v.extractLsb' 4 2 := rfl
@[simp] theorem writeCtrl_ctrlIe : (writeCtrl v s).ctrlIe = v.getLsbD 8 := rfl
@[simp] theorem writeCtrl_busy : (writeCtrl v s).busy = s.busy := rfl
@[simp] theorem writeCtrl_ksValid : (writeCtrl v s).ksValid = s.ksValid := rfl
@[simp] theorem writeCtrl_modeValid : (writeCtrl v s).modeValid = s.modeValid := rfl
@[simp] theorem writeCtrl_ovr : (writeCtrl v s).ovr = s.ovr := rfl
@[simp] theorem writeCtrl_doneFlag : (writeCtrl v s).doneFlag = s.doneFlag := rfl
@[simp] theorem writeCtrl_err : (writeCtrl v s).err = s.err := rfl
@[simp] theorem writeCtrl_outLen : (writeCtrl v s).outLen = s.outLen := rfl
@[simp] theorem writeCtrl_keyLen : (writeCtrl v s).keyLen = s.keyLen := rfl
@[simp] theorem writeCtrl_ivLen : (writeCtrl v s).ivLen = s.ivLen := rfl
@[simp] theorem writeCtrl_gfA : (writeCtrl v s).gfA = s.gfA := rfl
@[simp] theorem writeCtrl_gfB : (writeCtrl v s).gfB = s.gfB := rfl
@[simp] theorem writeCtrl_gfRes : (writeCtrl v s).gfRes = s.gfRes := rfl
@[simp] theorem writeCtrl_nk : (writeCtrl v s).nk = s.nk := rfl
@[simp] theorem writeCtrl_nr : (writeCtrl v s).nr = s.nr := rfl
@[simp] theorem writeCtrl_modeR : (writeCtrl v s).modeR = s.modeR := rfl
@[simp] theorem writeCtrl_dirR : (writeCtrl v s).dirR = s.dirR := rfl
@[simp] theorem writeCtrl_key : (writeCtrl v s).key = s.key := rfl
@[simp] theorem writeCtrl_iv : (writeCtrl v s).iv = s.iv := rfl
@[simp] theorem writeCtrl_fb : (writeCtrl v s).fb = s.fb := rfl
@[simp] theorem writeCtrl_stateReg : (writeCtrl v s).stateReg = s.stateReg := rfl
@[simp] theorem writeCtrl_din : (writeCtrl v s).din = s.din := rfl
@[simp] theorem writeCtrl_dout : (writeCtrl v s).dout = s.dout := rfl
@[simp] theorem writeCtrl_ks : (writeCtrl v s).ks = s.ks := rfl
@[simp] theorem writeCtrl_pend : (writeCtrl v s).pend = s.pend := rfl
@[simp] theorem writeCtrl_delay : (writeCtrl v s).delay = s.delay := rfl
@[simp] theorem writeCtrl_host : (writeCtrl v s).host = s.host := rfl
@[simp] theorem writeCtrl_response : (writeCtrl v s).response = s.response := rfl
@[simp] theorem writeCtrl_draws : (writeCtrl v s).draws = s.draws := rfl
end

section
variable (l : List HostEvent) (s : State)
@[simp] theorem hardReset_ctrlMode : (hardReset l s).ctrlMode = State.reset.ctrlMode := rfl
@[simp] theorem hardReset_ctrlDir : (hardReset l s).ctrlDir = State.reset.ctrlDir := rfl
@[simp] theorem hardReset_ctrlKsz : (hardReset l s).ctrlKsz = State.reset.ctrlKsz := rfl
@[simp] theorem hardReset_ctrlIe : (hardReset l s).ctrlIe = State.reset.ctrlIe := rfl
@[simp] theorem hardReset_busy : (hardReset l s).busy = State.reset.busy := rfl
@[simp] theorem hardReset_ksValid : (hardReset l s).ksValid = State.reset.ksValid := rfl
@[simp] theorem hardReset_modeValid : (hardReset l s).modeValid = State.reset.modeValid := rfl
@[simp] theorem hardReset_ovr : (hardReset l s).ovr = State.reset.ovr := rfl
@[simp] theorem hardReset_doneFlag : (hardReset l s).doneFlag = State.reset.doneFlag := rfl
@[simp] theorem hardReset_err : (hardReset l s).err = State.reset.err := rfl
@[simp] theorem hardReset_outLen : (hardReset l s).outLen = State.reset.outLen := rfl
@[simp] theorem hardReset_keyLen : (hardReset l s).keyLen = State.reset.keyLen := rfl
@[simp] theorem hardReset_ivLen : (hardReset l s).ivLen = State.reset.ivLen := rfl
@[simp] theorem hardReset_gfA : (hardReset l s).gfA = State.reset.gfA := rfl
@[simp] theorem hardReset_gfB : (hardReset l s).gfB = State.reset.gfB := rfl
@[simp] theorem hardReset_gfRes : (hardReset l s).gfRes = State.reset.gfRes := rfl
@[simp] theorem hardReset_nk : (hardReset l s).nk = State.reset.nk := rfl
@[simp] theorem hardReset_nr : (hardReset l s).nr = State.reset.nr := rfl
@[simp] theorem hardReset_modeR : (hardReset l s).modeR = State.reset.modeR := rfl
@[simp] theorem hardReset_dirR : (hardReset l s).dirR = State.reset.dirR := rfl
@[simp] theorem hardReset_key : (hardReset l s).key = State.reset.key := rfl
@[simp] theorem hardReset_iv : (hardReset l s).iv = State.reset.iv := rfl
@[simp] theorem hardReset_fb : (hardReset l s).fb = State.reset.fb := rfl
@[simp] theorem hardReset_stateReg : (hardReset l s).stateReg = State.reset.stateReg := rfl
@[simp] theorem hardReset_din : (hardReset l s).din = State.reset.din := rfl
@[simp] theorem hardReset_dout : (hardReset l s).dout = State.reset.dout := rfl
@[simp] theorem hardReset_ks : (hardReset l s).ks = State.reset.ks := rfl
@[simp] theorem hardReset_pend : (hardReset l s).pend = Config.undefinedPend s.draws := rfl
@[simp] theorem hardReset_delay : (hardReset l s).delay = State.reset.delay := rfl
@[simp] theorem hardReset_host : (hardReset l s).host = l := rfl
@[simp] theorem hardReset_response : (hardReset l s).response = State.reset.response := rfl
@[simp] theorem hardReset_draws : (hardReset l s).draws = s.draws + 1 := rfl
end

end Sys2Proof.Machine
end

