-- ==== Sys2Proof/Laws/Ops.lean ====
section
/-!
SUPPORT. What the shared operations can do, said once: the order of checks, the address map, what a command
can end in, and the two kinds of step.
-/
namespace Sys2Proof.Machine

/-! ### Checks -/

@[simp] theorem firstError_nil : firstError [] = .none := rfl

@[simp] theorem firstError_cons (e : ErrCode) (rest : List ErrCode) :
    firstError (e :: rest) = if e = .none then firstError rest else e := rfl

theorem firstError_eq_none (checks : List ErrCode) : firstError checks = .none ↔ ∀ e ∈ checks, e = .none := by
  induction checks with
  | nil => simp
  | cons e rest ih =>
    rw [firstError_cons]
    split <;> simp_all

/-- A checked command always completes: with its effect when every check passes, with the first error and no
effect otherwise. -/
theorem runChecked_eq (checks : List ErrCode) (effect s : State) :
    runChecked checks effect s =
      .next (complete (firstError checks) (if firstError checks = .none then effect else s)) := by
  unfold runChecked
  split <;> rename_i h
  · rw [h]; rfl
  · rfl

/-- A check answers no error exactly when its condition holds. -/
theorem check_none_iff {p : Prop} [Decidable p] {e : ErrCode} : (if p then ErrCode.none else e) = .none ↔ p ∨ e = .none := by
  split <;> simp_all

/-! ### The address map -/

/-- The map finds a register exactly at its offset (R31). -/
theorem regAt_eq_some (off : BitVec 12) (r : Reg) : regAt off = some r ↔ regOffset r = off.toNat := by
  have key : ∀ q ∈ allRegs, ∀ p ∈ allRegs, regOffset q = regOffset p → q = p := by decide +kernel
  have all : ∀ q : Reg, q ∈ allRegs := by
    intro q
    cases q <;> simp [allRegs]
  constructor
  · intro h
    simpa using List.find?_some h
  · intro h
    cases hf : regAt off with
    | none => exact absurd h (by simpa using List.find?_eq_none.mp hf r (all r))
    | some q =>
      have hq : regOffset q = off.toNat := by simpa using List.find?_some hf
      rw [key q (all q) r (all r) (hq.trans h.symm)]

/-- The map finds nothing exactly where R31 assigns no register. -/
theorem regAt_eq_none (off : BitVec 12) : regAt off = none ↔ ∀ r, regOffset r ≠ off.toNat := by
  constructor
  · intro h r hr
    rw [(regAt_eq_some off r).mpr hr] at h
    cases h
  · intro h
    cases hf : regAt off with
    | none => rfl
    | some r => exact absurd ((regAt_eq_some off r).mp hf) (h r)

theorem regOffset_lt (r : Reg) : regOffset r < 4096 := by
  cases r <;> simp only [regOffset] <;> omega

theorem regOffset_aligned (r : Reg) : regOffset r % 4 = 0 := by
  cases r <;> simp only [regOffset] <;> omega

/-- Writing at a register's offset in the host assembly reaches that register (R118). -/
@[simp] theorem regAt_regOffset (r : Reg) : regAt (BitVec.ofNat 12 (regOffset r)) = some r :=
  (regAt_eq_some _ _).mpr (by simp [Nat.mod_eq_of_lt (regOffset_lt r)])

@[simp] theorem served_regOffset (r : Reg) : served .word (BitVec.ofNat 12 (regOffset r)) = true := by
  simp [served, Nat.mod_eq_of_lt (regOffset_lt r), regOffset_aligned r]

/-! ### Commands -/

/-- The state a command leaves just before its completion writes STATUS, when no check fails (R50). -/
def Effect (i : Instr) (s e : State) : Prop :=
  match i with
  | .nop => e = s
  | .subBytes => e = putState (subBytes s.stateReg) s
  | .invSubBytes => e = putState (invSubBytes s.stateReg) s
  | .shiftRows => e = putState (shiftRows s.stateReg) s
  | .invShiftRows => e = putState (invShiftRows s.stateReg) s
  | .mixColumns => e = putState (mixColumns s.stateReg) s
  | .invMixColumns => e = putState (invMixColumns s.stateReg) s
  | .addRoundKey rnd => s.ksValid = true ∧ rnd ≤ roundCount s ∧ e = putState (addRoundKey s.ks s.stateReg rnd) s
  | .encRound rnd => s.ksValid = true ∧ rnd ≤ roundCount s ∧
      e = putState (encRound s.ks (roundCount s) s.stateReg rnd) s
  | .decRound rnd => s.ksValid = true ∧ rnd ≤ roundCount s ∧
      e = putState (decRound s.ks (roundCount s) s.stateReg rnd) s
  | .encryptBlock => s.ksValid = true ∧ e = putState (encryptBlock s.ks (roundCount s) s.stateReg) s
  | .decryptBlock => s.ksValid = true ∧ e = putState (decryptBlock s.ks (roundCount s) s.stateReg) s
  | .keyExpand => s.ctrlKsz ≠ 3 ∧ s.keyLen.toNat = 16 + 8 * keySizeOperand s ∧
      e = putSchedule (keySizeOperand s) (keySchedule (keySizeOperand s) s.key) s
  | .gfMul => e = putGfRes (gfMul s.gfA s.gfB) s
  | .sboxFwd => e = putGfRes (sbox s.gfA) s
  | .sboxInv => e = putGfRes (invSbox s.gfA) s
  | .modeInit => s.ksValid = true ∧ s.ctrlMode ≤ 4 ∧ (s.ctrlMode = 0 ∨ s.ivLen = 16) ∧
      e = putTransform (selectedMode s) s.ctrlDir (initialFeedback s) s
  | .processBlock => s.ksValid = true ∧ s.modeValid = true ∧
      e = putOutput (modeStep s s.din).1 16 (modeStep s s.din).2 s
  | .finalize n => s.ksValid = true ∧ s.modeValid = true ∧ n ≤ 16 ∧ (s.dirR = .encrypt ∨ n = 0 ∨ n = 16) ∧
      e = finalizeEffect n s
  | .zeroize => e = clearData s

/-- A checked command whose checks pass only under `p`. -/
theorem runChecked_cases {checks : List ErrCode} {effect s : State} {p : State → Prop}
    (hp : firstError checks = .none → p effect) :
    ∃ code e, runChecked checks effect s = .next (complete code e) ∧
      ((code = .none ∧ p e) ∨ (code ≠ .none ∧ e = s)) := by
  refine ⟨firstError checks, if firstError checks = .none then effect else s, runChecked_eq _ _ _, ?_⟩
  split <;> rename_i h
  · exact .inl ⟨h, hp h⟩
  · exact .inr ⟨h, rfl⟩

/-- Everything a command can do: it completes, either with no error and its effect, or with an error and
no effect at all (R301, R341). -/
theorem exec_cases (i : Instr) (s : State) :
    ∃ code e, exec i s = .next (complete code e) ∧ ((code = .none ∧ Effect i s e) ∨ (code ≠ .none ∧ e = s)) := by
  cases i with
  | nop => exact ⟨_, _, rfl, .inl ⟨rfl, rfl⟩⟩
  | subBytes => exact ⟨_, _, rfl, .inl ⟨rfl, rfl⟩⟩
  | invSubBytes => exact ⟨_, _, rfl, .inl ⟨rfl, rfl⟩⟩
  | shiftRows => exact ⟨_, _, rfl, .inl ⟨rfl, rfl⟩⟩
  | invShiftRows => exact ⟨_, _, rfl, .inl ⟨rfl, rfl⟩⟩
  | mixColumns => exact ⟨_, _, rfl, .inl ⟨rfl, rfl⟩⟩
  | invMixColumns => exact ⟨_, _, rfl, .inl ⟨rfl, rfl⟩⟩
  | gfMul => exact ⟨_, _, rfl, .inl ⟨rfl, rfl⟩⟩
  | sboxFwd => exact ⟨_, _, rfl, .inl ⟨rfl, rfl⟩⟩
  | sboxInv => exact ⟨_, _, rfl, .inl ⟨rfl, rfl⟩⟩
  | zeroize => exact ⟨_, _, rfl, .inl ⟨rfl, rfl⟩⟩
  | addRoundKey rnd =>
    exact runChecked_cases fun h => by
      simp only [firstError_eq_none, List.forall_mem_cons, scheduleCheck, roundCheck, check_none_iff, reduceCtorEq, or_false] at h
      exact ⟨h.1, h.2.1, rfl⟩
  | encRound rnd =>
    exact runChecked_cases fun h => by
      simp only [firstError_eq_none, List.forall_mem_cons, scheduleCheck, roundCheck, check_none_iff, reduceCtorEq, or_false] at h
      exact ⟨h.1, h.2.1, rfl⟩
  | decRound rnd =>
    exact runChecked_cases fun h => by
      simp only [firstError_eq_none, List.forall_mem_cons, scheduleCheck, roundCheck, check_none_iff, reduceCtorEq, or_false] at h
      exact ⟨h.1, h.2.1, rfl⟩
  | encryptBlock =>
    exact runChecked_cases fun h => by
      simp only [firstError_eq_none, List.forall_mem_cons, scheduleCheck, check_none_iff, reduceCtorEq, or_false] at h
      exact ⟨h.1, rfl⟩
  | decryptBlock =>
    exact runChecked_cases fun h => by
      simp only [firstError_eq_none, List.forall_mem_cons, scheduleCheck, check_none_iff, reduceCtorEq, or_false] at h
      exact ⟨h.1, rfl⟩
  | keyExpand =>
    exact runChecked_cases fun h => by
      simp only [firstError_eq_none, List.forall_mem_cons, keyLengthCheck, check_none_iff, reduceCtorEq, or_false] at h
      exact ⟨h.1.1, h.1.2, rfl⟩
  | modeInit =>
    exact runChecked_cases fun h => by
      simp only [firstError_eq_none, List.forall_mem_cons, scheduleCheck, modeCheck, ivLengthCheck, check_none_iff, reduceCtorEq, or_false] at h
      exact ⟨h.1, h.2.1, h.2.2.1, rfl⟩
  | processBlock =>
    exact runChecked_cases fun h => by
      simp only [firstError_eq_none, List.forall_mem_cons, scheduleCheck, transformCheck, check_none_iff, reduceCtorEq, or_false] at h
      exact ⟨h.1, h.2.1, rfl⟩
  | finalize n =>
    exact runChecked_cases fun h => by
      simp only [firstError_eq_none, List.forall_mem_cons, scheduleCheck, transformCheck, chunkSizeCheck, chunkWholeCheck, check_none_iff, reduceCtorEq, or_false] at h
      exact ⟨h.1, h.2.1, h.2.2.1, h.2.2.2.1, rfl⟩

/-- What no command's effect writes: OVR, CTRL, KEY_LEN, IV_LEN and the host's side (R50, R281). -/
theorem Effect.untouched {i : Instr} {s e : State} (h : Effect i s e) :
    e.ovr = s.ovr ∧ e.ctrlMode = s.ctrlMode ∧ e.ctrlDir = s.ctrlDir ∧ e.ctrlKsz = s.ctrlKsz ∧ e.ctrlIe = s.ctrlIe ∧
      e.keyLen = s.keyLen ∧ e.ivLen = s.ivLen ∧ e.host = s.host ∧ e.response = s.response ∧ e.delay = s.delay ∧
      e.draws = s.draws ∧ e.pend = s.pend := by
  cases i with
  | nop | subBytes | invSubBytes | shiftRows | invShiftRows | mixColumns | invMixColumns | gfMul | sboxFwd | sboxInv
  | zeroize => simp only [Effect] at h; subst h; simp
  | encryptBlock | decryptBlock => obtain ⟨_, rfl⟩ := h; simp
  | addRoundKey | encRound | decRound | keyExpand | processBlock => obtain ⟨_, _, rfl⟩ := h; simp
  | modeInit => obtain ⟨_, _, _, rfl⟩ := h; simp
  | finalize n =>
    obtain ⟨_, _, _, _, rfl⟩ := h
    unfold finalizeEffect
    split
    · simp
    · split <;> simp

/-- What only ZEROIZE clears of the host's operand registers (R282). -/
theorem Effect.operands {i : Instr} {s e : State} (h : Effect i s e) (hi : i ≠ .zeroize) :
    e.gfA = s.gfA ∧ e.gfB = s.gfB ∧ e.key = s.key ∧ e.iv = s.iv ∧ e.din = s.din := by
  cases i with
  | nop | subBytes | invSubBytes | shiftRows | invShiftRows | mixColumns | invMixColumns | gfMul | sboxFwd | sboxInv =>
    simp only [Effect] at h; subst h; simp
  | zeroize => exact absurd rfl hi
  | encryptBlock | decryptBlock => obtain ⟨_, rfl⟩ := h; simp
  | addRoundKey | encRound | decRound | keyExpand | processBlock => obtain ⟨_, _, rfl⟩ := h; simp
  | modeInit => obtain ⟨_, _, _, rfl⟩ := h; simp
  | finalize n =>
    obtain ⟨_, _, _, _, rfl⟩ := h
    unfold finalizeEffect
    split
    · simp
    · split <;> simp

/-- What only KEY_EXPAND and ZEROIZE write: the schedule, its sizes and KS_VALID (R49, R50). -/
theorem Effect.schedule {i : Instr} {s e : State} (h : Effect i s e) (hk : i ≠ .keyExpand) (hz : i ≠ .zeroize) :
    e.ks = s.ks ∧ e.nk = s.nk ∧ e.nr = s.nr ∧ e.ksValid = s.ksValid := by
  cases i with
  | nop | subBytes | invSubBytes | shiftRows | invShiftRows | mixColumns | invMixColumns | gfMul | sboxFwd | sboxInv =>
    simp only [Effect] at h; subst h; simp
  | keyExpand => exact absurd rfl hk
  | zeroize => exact absurd rfl hz
  | encryptBlock | decryptBlock => obtain ⟨_, rfl⟩ := h; simp
  | addRoundKey | encRound | decRound | processBlock => obtain ⟨_, _, rfl⟩ := h; simp
  | modeInit => obtain ⟨_, _, _, rfl⟩ := h; simp
  | finalize n =>
    obtain ⟨_, _, _, _, rfl⟩ := h
    unfold finalizeEffect
    split
    · simp
    · split <;> simp

/-! ### Steps -/

/-- The two kinds of step: the completion of the command in flight, or the host's turn (R341, R91). -/
theorem step_cases (s : State) :
    (completionDue s = true ∧ ∃ i, decode s.pend = .command i ∧ step s = exec i s) ∨
    (completionDue s = true ∧ ∃ why, decode s.pend = .illegal why ∧
      step s = .next (complete .illegalCommand s)) ∨
    (completionDue s = false ∧ step s = .next (hostTurn s)) := by
  unfold step
  split
  · rename_i hc
    unfold completionStep fetchWord
    split
    · exact .inl ⟨hc, _, ‹_›, rfl⟩
    · exact .inr (.inl ⟨hc, _, ‹_›, rfl⟩)
  · exact .inr (.inr ⟨by simp_all, rfl⟩)

theorem completionDue_iff (s : State) :
    completionDue s = true ↔ s.busy = true ∧ s.delay = 0 ∧ s.host.head? ≠ some .reset := by
  simp [completionDue, resetAsserted, and_assoc]

/-- A bus read writes the answer and, for a free value, the count of draws, and nothing else. -/
theorem busRead_cases (off : BitVec 12) (width : AccessWidth) (s : State) :
    ∃ a, busRead off width s = respond a s ∨ busRead off width s = respond a (drawn s) := by
  unfold busRead readBusy readIdle
  split
  · split <;> split <;> first | exact ⟨_, .inl rfl⟩ | exact ⟨_, .inr rfl⟩
  · exact ⟨_, .inl rfl⟩

/-- A bus write is refused or ignored, dropped because BUSY = 1, or reaches the register at its offset. -/
theorem busWrite_cases (off : BitVec 12) (width : AccessWidth) (v : Word) (s : State) :
    (∃ a, busWrite off width v s = respond a s ∧ (served width off = false ∨ regAt off = none)) ∨
    (s.busy = true ∧ served width off = true ∧ busWrite off width v s = writeBusy s) ∨
    (s.busy = false ∧ served width off = true ∧ ∃ r, regAt off = some r ∧
      busWrite off width v s = respond .ack (writeReg r v s)) := by
  unfold busWrite writeIdle
  split
  · split
    · exact .inr (.inl ⟨‹_›, ‹_›, rfl⟩)
    · split
      · exact .inr (.inr ⟨by simp_all, ‹_›, _, ‹_›, rfl⟩)
      · exact .inl ⟨_, rfl, .inr ‹_›⟩
  · exact .inl ⟨_, rfl, .inl (by simp_all)⟩

end Sys2Proof.Machine
end

