-- ==== Sys2Proof/Laws/PerInstr.lean ====
section
/-!
SUPPORT. The family EncodedFields, one lemma for each command: its word has the OP value of the opcode map
in its place, its operands in theirs, and 0 everywhere else (R110, R112).
-/
namespace Sys2Proof.Laws.EncodedFields

/-- The fields of a well-formed command's word. -/
def Statement (i : Instr) : Prop :=
  i.wellFormed = true →
    opField (encode i) = i.opcode ∧ rndField (encode i) = i.roundOperand ∧ cntField (encode i) = i.countOperand ∧
    encode i &&& 0xFFE0F0C0 = 0

theorem nop : Statement .nop := by unfold Statement; decide
theorem subBytes : Statement .subBytes := by unfold Statement; decide
theorem invSubBytes : Statement .invSubBytes := by unfold Statement; decide
theorem shiftRows : Statement .shiftRows := by unfold Statement; decide
theorem invShiftRows : Statement .invShiftRows := by unfold Statement; decide
theorem mixColumns : Statement .mixColumns := by unfold Statement; decide
theorem invMixColumns : Statement .invMixColumns := by unfold Statement; decide

theorem addRoundKey (rnd : Nat) : Statement (.addRoundKey rnd) := by
  intro h
  have hr : rnd < 16 := by simpa [Instr.wellFormed, Instr.roundFits, Instr.countFits] using h
  interval_cases rnd <;> decide

theorem encRound (rnd : Nat) : Statement (.encRound rnd) := by
  intro h
  have hr : rnd < 16 := by simpa [Instr.wellFormed, Instr.roundFits, Instr.countFits] using h
  interval_cases rnd <;> decide

theorem decRound (rnd : Nat) : Statement (.decRound rnd) := by
  intro h
  have hr : rnd < 16 := by simpa [Instr.wellFormed, Instr.roundFits, Instr.countFits] using h
  interval_cases rnd <;> decide

theorem encryptBlock : Statement .encryptBlock := by unfold Statement; decide
theorem decryptBlock : Statement .decryptBlock := by unfold Statement; decide
theorem keyExpand : Statement .keyExpand := by unfold Statement; decide
theorem gfMul : Statement .gfMul := by unfold Statement; decide
theorem sboxFwd : Statement .sboxFwd := by unfold Statement; decide
theorem sboxInv : Statement .sboxInv := by unfold Statement; decide
theorem modeInit : Statement .modeInit := by unfold Statement; decide
theorem processBlock : Statement .processBlock := by unfold Statement; decide

theorem finalize (cnt : Nat) : Statement (.finalize cnt) := by
  intro h
  have hc : cnt < 32 := by simpa [Instr.wellFormed, Instr.roundFits, Instr.countFits] using h
  interval_cases cnt <;> decide

theorem zeroize : Statement .zeroize := by unfold Statement; decide

end Sys2Proof.Laws.EncodedFields
end

