-- ==== Sys2Proof/Laws/Regs.lean ====
section
/-!
SUPPORT. What each named update does to the registers as the host reads them, and the host's turn by the
event at the head of its list.
-/
namespace Sys2Proof.Machine

/-! ### Updates no register shows -/

@[simp] theorem readReg_respond (a : BusResponse) (s : State) (r : Reg) : readReg (respond a s) r = readReg s r := by
  cases r <;> rfl

@[simp] theorem readReg_nextSlot (l : List HostEvent) (s : State) (r : Reg) :
    readReg (nextSlot l s) r = readReg s r := by
  cases r <;> rfl

@[simp] theorem readReg_drawn (s : State) (r : Reg) : readReg (drawn s) r = readReg s r := by
  cases r <;> rfl

/-- After the reset event the registers read as in the state after reset (R340). -/
@[simp] theorem readReg_hardReset (l : List HostEvent) (s : State) (r : Reg) :
    readReg (hardReset l s) r = readReg State.reset r := by
  cases r <;> rfl

/-! ### Updates only STATUS shows -/

theorem readReg_complete {r : Reg} (h : r ≠ .status) (c : ErrCode) (s : State) :
    readReg (complete c s) r = readReg s r := by
  cases r <;> first | rfl | exact absurd rfl h

theorem readReg_issue {r : Reg} (h : r ≠ .status) (c : Word) (s : State) : readReg (issue c s) r = readReg s r := by
  cases r <;> first | rfl | exact absurd rfl h

theorem readReg_overrun {r : Reg} (h : r ≠ .status) (s : State) : readReg (overrun s) r = readReg s r := by
  cases r <;> first | rfl | exact absurd rfl h

/-- STATUS bit 0 is BUSY (R33). -/
theorem statusWord_busy (s : State) : (statusWord s).getLsbD 0 = s.busy := by
  simp only [statusWord, BitVec.getLsbD_append]
  simp

/-! ### The host's turn -/

theorem step_eq_hostTurn {s : State} (h : completionDue s = false) : step s = .next (hostTurn s) := by
  simp [step, h]

theorem completionDue_eq_false_of_idle {s : State} (h : s.busy = false) : completionDue s = false := by
  simp [completionDue, h]

theorem completionDue_eq_false_of_delay {s : State} (h : s.delay ≠ 0) : completionDue s = false := by
  simp [completionDue, h]

theorem hostTurn_nil {s : State} (h : s.host = []) : hostTurn s = nextSlot [] s := by
  simp [hostTurn, h]

theorem hostTurn_read {s : State} {off : BitVec 12} {w : AccessWidth} {l : List HostEvent}
    (h : s.host = .read off w :: l) : hostTurn s = busRead off w (nextSlot l s) := by
  simp [hostTurn, h]

theorem hostTurn_write {s : State} {off : BitVec 12} {w : AccessWidth} {v : Word} {l : List HostEvent}
    (h : s.host = .write off w v :: l) : hostTurn s = busWrite off w v (nextSlot l s) := by
  simp [hostTurn, h]

/-- A `wait` reads STATUS and stays while BUSY = 1 (R119). -/
theorem hostTurn_wait {s : State} {l : List HostEvent} (h : s.host = .wait :: l) :
    hostTurn s = respond (.data (statusWord s)) (nextSlot (if s.busy then .wait :: l else l) s) := by
  have hv : served .word 0x008 = true := by decide
  have hr : regAt 0x008 = some .status := by decide +kernel
  unfold hostTurn busRead readBusy readIdle
  cases hb : s.busy <;> simp only [h, hv, hr, hb, if_true, nextSlot_busy, Bool.false_eq_true, if_false] <;> rfl

theorem hostTurn_reset {s : State} {l : List HostEvent} (h : s.host = .reset :: l) : hostTurn s = hardReset l s := by
  simp [hostTurn, h]

theorem hostTurn_idle {s : State} {l : List HostEvent} (h : s.host = .idle :: l) : hostTurn s = nextSlot l s := by
  simp [hostTurn, h]

/-- A word write of the host assembly while BUSY = 0 writes its register (R118). -/
theorem busWrite_idle {s : State} (h : s.busy = false) (r : Reg) (v : Word) :
    busWrite (BitVec.ofNat 12 (regOffset r)) .word v s = respond .ack (writeReg r v s) := by
  simp [busWrite, writeIdle, h]

/-- A word read of the host assembly while BUSY = 0 returns its register (R118). -/
theorem busRead_idle {s : State} (h : s.busy = false) (r : Reg) :
    busRead (BitVec.ofNat 12 (regOffset r)) .word s = respond (.data (readReg s r)) s := by
  simp [busRead, readIdle, h]

end Sys2Proof.Machine
end

