-- ==== Sys2Proof/Tests/Slice0.lean ====
section
/-!
SUPPORT. Tests of one step each, their expected values from 95_test_vectors.md, and for each statement with
hypotheses the witnesses that meet them.
-/
namespace Sys2Proof.Tests

open Sys2Proof.Machine

-- One theorem after another: elaborated side by side, the kernel evaluations below run out of thread stacks.
set_option Elab.async false

/-! ### Helpers -/

/-- A byte string as the spec writes it, byte 0 first. -/
def hexBlock (v : BitVec 128) : Block := blockOfBytes fun k => v.extractLsb' (8 * (15 - k)) 8

/-- The App. B key in KEY0-KEY3. -/
def appBKey : Vector Col 8 :=
  #v[⟨0x2b, 0x7e, 0x15, 0x16⟩, ⟨0x28, 0xae, 0xd2, 0xa6⟩, ⟨0xab, 0xf7, 0x15, 0x88⟩, ⟨0x09, 0xcf, 0x4f, 0x3c⟩,
    Col.zero, Col.zero, Col.zero, Col.zero]

/-- The 256-bit key of Program 6. -/
def programSixKey : Vector Col 8 :=
  Vector.ofFn fun i => colOfFn fun j => BitVec.ofNat 8 (4 * i.val + j.val)

/-- After reset, with the App. B key and its length written. -/
def withKey : State := { State.reset with key := appBKey, keyLen := 16 }

/-- After reset, with an expanded App. B schedule. -/
def withSchedule : State :=
  { withKey with ks := keySchedule 0 appBKey, nk := 4, nr := 10, ksValid := true }

/-- With a transform instance on that schedule. -/
def ready (mode : BlockMode) (dir : Direction) : State :=
  { withSchedule with modeR := mode, dirR := dir, modeValid := true }

/-- With a command in flight that takes `d` more slots, and the host's events. -/
def busyWith (d : Nat) (events : List HostEvent) : State :=
  { State.reset with busy := true, delay := d, host := events }

/-- With nothing in flight and the host's events. -/
def idleWith (events : List HostEvent) : State := { State.reset with host := events }

/-- The state after one step. -/
def after (s : State) : Option State :=
  match step s with
  | .next t => some t
  | .fault _ => none
  | .refused _ => none

/-- The state after the command word `w` has run. -/
def runWord (s : State) (w : Nat) : Option State := after (s.withFetchWord 32 w)

/-- STATE after the command word `w` has run on the STATE `b`. -/
def stateAfter (s : State) (w : Nat) (b : Block) : Option Block :=
  (runWord { s with stateReg := b } w).map (·.stateReg)

/-- STATUS after the command word `w`. -/
def statusAfter (s : State) (w : Nat) : Option Word := (runWord s w).map (readReg · .status)

/-- GF_RES after the command word `w` on the operands `a` and `b`. -/
def gfAfter (a b : Byte) (w : Nat) : Option Word :=
  (runWord { State.reset with gfA := a, gfB := b } w).map (readReg · .gfRes)

/-- DOUT, FB and OUT_LEN after the command word `w` on the input block `x`. -/
def outputAfter (s : State) (w : Nat) (x : Block) : Option (Block × Block × BitVec 5) :=
  (runWord { s with din := x } w).map fun t => (t.dout, t.fb, t.outLen)

/-! ### Well-formedness (R110): each check refuses an ill-formed term -/

theorem test_wf_round_index_16 : (Instr.addRoundKey 16).roundFits = false := by decide
theorem test_wf_enc_round_16 : (Instr.encRound 16).wellFormed = false := by decide
theorem test_wf_dec_round_16 : (Instr.decRound 16).wellFormed = false := by decide
theorem test_wf_count_32 : (Instr.finalize 32).countFits = false ∧ (Instr.finalize 32).wellFormed = false := by decide
theorem test_wf_largest_fields : (Instr.decRound 15).wellFormed = true ∧ (Instr.finalize 31).wellFormed = true := by
  decide

/-! ### Decoding: words written from the format of R110 and the opcodes of R115 -/

theorem test_decode_nop : decode 0b00000000000000000000000000000000 = .command .nop := by decide
theorem test_decode_sub_bytes : decode 0b00000000000000000000000000000001 = .command .subBytes := by decide
theorem test_decode_inv_sub_bytes : decode 0b00000000000000000000000000000010 = .command .invSubBytes := by decide
theorem test_decode_shift_rows : decode 0b00000000000000000000000000000011 = .command .shiftRows := by decide
theorem test_decode_inv_shift_rows : decode 0b00000000000000000000000000000100 = .command .invShiftRows := by decide
theorem test_decode_mix_columns : decode 0b00000000000000000000000000000101 = .command .mixColumns := by decide
theorem test_decode_inv_mix_columns : decode 0b00000000000000000000000000000110 = .command .invMixColumns := by decide
theorem test_decode_add_round_key : decode 0b00000000000000000000101000000111 = .command (.addRoundKey 10) := by decide
theorem test_decode_enc_round : decode 0b00000000000000000000100100001000 = .command (.encRound 9) := by decide
theorem test_decode_dec_round : decode 0b00000000000000000000111100001001 = .command (.decRound 15) := by decide
theorem test_decode_encrypt_block : decode 0b00000000000000000000000000001010 = .command .encryptBlock := by decide
theorem test_decode_decrypt_block : decode 0b00000000000000000000000000001011 = .command .decryptBlock := by decide
theorem test_decode_key_expand : decode 0b00000000000000000000000000010000 = .command .keyExpand := by decide
theorem test_decode_gf_mul : decode 0b00000000000000000000000000010001 = .command .gfMul := by decide
theorem test_decode_sbox_fwd : decode 0b00000000000000000000000000010010 = .command .sboxFwd := by decide
theorem test_decode_sbox_inv : decode 0b00000000000000000000000000010011 = .command .sboxInv := by decide
theorem test_decode_mode_init : decode 0b00000000000000000000000000011000 = .command .modeInit := by decide
theorem test_decode_process_block : decode 0b00000000000000000000000000011001 = .command .processBlock := by decide
theorem test_decode_finalize : decode 0b00000000000101010000000000011010 = .command (.finalize 21) := by decide
theorem test_decode_zeroize : decode 0b00000000000000000000000000011111 = .command .zeroize := by decide

/-- R116: the ends of each reserved range. -/
theorem test_decode_reserved :
    [0x0C, 0x0F, 0x14, 0x17, 0x1B, 0x1E, 0x20, 0x3F].all
      (fun c => decode (BitVec.ofNat 32 c) = .illegal .reservedOpcode) = true := by decide

/-- R112: RND bits on a command without RND, CNT bits on one without CNT, and reserved bits 6, 7, 12, 15, 21, 31. -/
theorem test_decode_stray_bits :
    [0x0000010A, 0x00010007, 0x00000041, 0x00000087, 0x00001008, 0x00008009, 0x0020001A, 0x80000000].all
      (fun c => decode (BitVec.ofNat 32 c) = .illegal .strayBits) = true := by decide

/-- "No two rows overlap, because their OP fields differ" (R115). -/
theorem test_rows_differ_in_op :
    (opcodeMap.map fun row => opField row.pattern).Nodup ∧
      opcodeMap.all (fun row => opField row.mask == 0x3F && row.pattern &&& row.mask == row.pattern) = true := by decide

theorem test_table_word : decodeTableWord 32 0x0005001A = some (.finalize 5) ∧ decodeTableWord 32 0x0C = none := by
  decide

/-! ### GF(2^8) and S-box commands (95_test_vectors.md 2.1) -/

theorem test_gf_mul : gfAfter 0x57 0x13 0x11 = some 0xfe := by decide +kernel
theorem test_gf_mul_reduces : gfAfter 0x02 0x87 0x11 = some 0x15 := by decide +kernel
theorem test_sbox_fwd_ignores_b : gfAfter 0x7f 0xff 0x12 = some 0xd2 := by decide +kernel
theorem test_sbox_inv : gfAfter 0xf0 0x00 0x13 = some 0x17 := by decide +kernel
theorem test_xtime_chain : [0x57, 0xae, 0x47, 0x8e, 0x80, 0xff].map xtime = [0xae, 0x47, 0x8e, 0x07, 0x1b, 0xe5] := by
  decide

/-! ### Round commands (95_test_vectors.md 2.2, 2.4) -/

theorem test_sub_bytes :
    stateAfter State.reset 0x01 (hexBlock 0x193de3bea0f4e22b9ac68d2ae9f84808) =
      some (hexBlock 0xd42711aee0bf98f1b8b45de51e415230) := by decide +kernel
theorem test_inv_sub_bytes :
    stateAfter State.reset 0x02 (hexBlock 0xd42711aee0bf98f1b8b45de51e415230) =
      some (hexBlock 0x193de3bea0f4e22b9ac68d2ae9f84808) := by decide +kernel
theorem test_shift_rows :
    stateAfter State.reset 0x03 (hexBlock 0xd42711aee0bf98f1b8b45de51e415230) =
      some (hexBlock 0xd4bf5d30e0b452aeb84111f11e2798e5) := by decide +kernel
theorem test_inv_shift_rows :
    stateAfter State.reset 0x04 (hexBlock 0x000102030405060708090a0b0c0d0e0f) =
      some (hexBlock 0x000d0a0704010e0b0805020f0c090603) := by decide +kernel
theorem test_mix_columns :
    stateAfter State.reset 0x05 (hexBlock 0x000102030405060708090a0b0c0d0e0f) =
      some (hexBlock 0x02070005060304010a0f080d0e0b0c09) := by decide +kernel
theorem test_mix_columns_unequal_column :
    stateAfter State.reset 0x05 (hexBlock 0xd4d4d4d52d26314c0101010100000000) =
      some (hexBlock 0xd5d5d7d64d7ebdf80101010100000000) := by decide +kernel
theorem test_inv_mix_columns :
    stateAfter State.reset 0x06 (hexBlock 0x046681e5e0cb199a48f8d37a2806264c) =
      some (hexBlock 0xd4bf5d30e0b452aeb84111f11e2798e5) := by decide +kernel
theorem test_add_round_key_zero :
    stateAfter withSchedule 0x007 (hexBlock 0x000102030405060708090a0b0c0d0e0f) =
      some (hexBlock 0x2b7f17152cabd4a1a3fe1f8305c24133) := by decide +kernel
theorem test_add_round_key_last :
    stateAfter withSchedule 0xa07 Block.zero = some (hexBlock 0xd014f9a8c9ee2589e13f0cc8b6630ca6) := by decide +kernel
theorem test_enc_round_one :
    stateAfter withSchedule 0x108 (hexBlock 0x193de3bea0f4e22b9ac68d2ae9f84808) =
      some (hexBlock 0xa49c7ff2689f352b6b5bea43026a5049) := by decide +kernel
theorem test_enc_round_last_skips_mix :
    stateAfter withSchedule 0xa08 (hexBlock 0xeb40f21e592e38848ba113e71bc342d2) =
      some (hexBlock 0x3925841d02dc09fbdc118597196a0b32) := by decide +kernel
theorem test_dec_round_nine :
    stateAfter withSchedule 0x909 (hexBlock 0xe9317db5cb322c723d2e895faf090794) =
      some (hexBlock 0x876e46a6f24ce78c4d904ad897ecc395) := by decide +kernel
theorem test_dec_round_zero :
    stateAfter withSchedule 0x009 (hexBlock 0xd4bf5d30e0b452aeb84111f11e2798e5) =
      some (hexBlock 0x3243f6a8885a308d313198a2e0370734) := by decide +kernel
theorem test_encrypt_block :
    stateAfter withSchedule 0x0A (hexBlock 0x3243f6a8885a308d313198a2e0370734) =
      some (hexBlock 0x3925841d02dc09fbdc118597196a0b32) := by decide +kernel
theorem test_decrypt_block :
    stateAfter withSchedule 0x0B (hexBlock 0x3925841d02dc09fbdc118597196a0b32) =
      some (hexBlock 0x3243f6a8885a308d313198a2e0370734) := by decide +kernel

/-! ### KEY_EXPAND (95_test_vectors.md 2.3, Program 6) -/

theorem test_key_expand_128 :
    (runWord withKey 0x10).map (fun t => [readReg t .info, readReg t (.ks 4), readReg t (.ks 43), readReg t (.ks 44)]) =
      some [0x000000a4, 0x17fefaa0, 0xa60c63b6, 0] := by decide +kernel
theorem test_key_expand_256 :
    (runWord { State.reset with key := programSixKey, keyLen := 32, ctrlKsz := 2 } 0x10).map
        (fun t => [readReg t .info, readReg t (.ks 7), readReg t (.ks 59)]) =
      some [0x000000e8, 0x1f1e1d1c, 0x36de686d] := by decide +kernel
theorem test_schedule_192_words :
    ([6, 51].map fun i => scheduleWord (keySchedule 1 programSixKey) i) =
      [⟨0x58, 0x46, 0xf2, 0xf9⟩, ⟨0xe3, 0xa4, 0x1d, 0x5d⟩] := by decide +kernel

/-! ### Block modes (95_test_vectors.md 2.5 to 2.7) -/

/-- MODE_INIT of CTR with an IV: FB, INFO and STATUS. -/
theorem test_mode_init_ctr :
    (runWord { withSchedule with ctrlMode := 4, ivLen := 16, iv := hexBlock 0xf0f1f2f3f4f5f6f7f8f9fafbfcfdfeff } 0x18).map
        (fun t => [readReg t .info, readReg t (.fb 3), readReg t .status]) =
      some [0x000004a4, 0xfffefdfc, 0x00000016] := by decide +kernel
theorem test_mode_init_ecb_ignores_iv :
    (runWord { withSchedule with ctrlDir := .decrypt, iv := hexBlock 0x000102030405060708090a0b0c0d0e0f } 0x18).map
        (fun t => [readReg t .info, readReg t (.fb 0), readReg t .status]) =
      some [0x000008a4, 0, 0x00000016] := by decide +kernel
theorem test_process_block_cbc :
    outputAfter { ready .cbc .encrypt with fb := hexBlock 0x000102030405060708090a0b0c0d0e0f } 0x19
        (hexBlock 0x6bc1bee22e409f96e93d7e117393172a) =
      some (hexBlock 0x7649abac8119b246cee98e9b12e9197d, hexBlock 0x7649abac8119b246cee98e9b12e9197d, 16) := by
  decide +kernel
theorem test_process_block_ctr_wraps :
    outputAfter { ready .ctr .encrypt with fb := hexBlock 0xf0f1f2f3f4f5f6f7f8f9fafbffffffff } 0x19 Block.zero =
      some (hexBlock 0x3ce1608360d83bf378aa6f000f6182c2, hexBlock 0xf0f1f2f3f4f5f6f7f8f9fafb00000000, 16) := by
  decide +kernel
theorem test_finalize_ofb_pads :
    outputAfter { ready .ofb .encrypt with fb := hexBlock 0x000102030405060708090a0b0c0d0e0f } 0x0005001a
        (hexBlock 0x0102030405ffffffffffffffffffffff) =
      some (hexBlock 0x51fc64c89ced32b6da0937e99bafec60, hexBlock 0x50fe67cc996d32b6da0937e99bafec60, 16) := by
  decide +kernel
theorem test_finalize_ecb_strips :
    outputAfter (ready .ecb .decrypt) 0x0010001a (hexBlock 0x043ad89bb055d04d6eb467f2e7fd6072) =
      some (hexBlock 0x00112233445566778899aabbcc000000, Block.zero, 13) := by decide +kernel

/-! ### Control commands and errors (95_test_vectors.md 2.9, 2.10) -/

theorem test_nop_clears_stale_error : statusAfter { withSchedule with err := .invalidRound } 0x00 = some 0x12 := by
  decide +kernel
theorem test_zeroize :
    (runWord { ready .cbc .decrypt with ctrlMode := 1, ctrlDir := .decrypt, ivLen := 16, outLen := 5 } 0x1F).map
        (fun t => [readReg t .status, readReg t (.ks 43), readReg t .info, readReg t .ctrl, readReg t .keyLen]) =
      some [0x00000010, 0, 0, 0x00000009, 16] := by decide +kernel
theorem test_errors_of_each_code :
    [statusAfter { State.reset with keyLen := 17 } 0x10,
      statusAfter (ready .ecb .decrypt) 0x0005001a,
      statusAfter { withSchedule with ctrlMode := 1, ivLen := 12 } 0x18,
      statusAfter { withSchedule with ctrlMode := 5 } 0x18,
      statusAfter State.reset 0x0A,
      statusAfter State.reset 0x0C,
      statusAfter withSchedule 0xB08] =
    [some 0x110, some 0x216, some 0x312, some 0x412, some 0x510, some 0x610, some 0x712] := by decide +kernel
theorem test_first_failing_check :
    [statusAfter State.reset 0xB0A, statusAfter { State.reset with ctrlMode := 5 } 0x18,
      statusAfter (ready .ecb .decrypt) 0x0011001a] = [some 0x610, some 0x510, some 0x216] := by decide +kernel

/-! ### The bus (95_test_vectors.md 2.9) -/

theorem test_ctrl_stores_its_fields :
    (after (idleWith [asmWr .ctrl 0xffffffff])).map (readReg · .ctrl) = some 0x0000013f := by decide +kernel
theorem test_gf_ops_drops_reserved_bits :
    (after (idleWith [asmWr .gfOps 0xffff8357])).map (readReg · .gfOps) = some 0x00008357 := by decide +kernel
theorem test_read_lanes :
    readReg { State.reset with fb := hexBlock 0xf0f1f2f3f4f5f6f7f8f9fafbfcfdff00 } (.fb 3) = 0x00fffdfc := by
  decide +kernel
theorem test_byte_lanes :
    (after (idleWith [asmWr (.iv 3) 0x01000000])).map (fun t => be32 t.iv.c3) = some 1 := by decide +kernel
theorem test_status_write_clears_ovr_only :
    (after { idleWith [asmWr .status 0x08] with ovr := true, doneFlag := true }).map (readReg · .status) =
      some 0x10 := by decide +kernel
theorem test_misaligned_access_refused :
    (after (idleWith [.read 0x002 .word])).map (·.response) = some .busError := by decide +kernel
theorem test_unassigned_reads_zero :
    (after (idleWith [.read 0x0f0 .word])).map (·.response) = some (.data 0) := by decide +kernel
theorem test_write_during_busy :
    (after (busyWith 3 [asmWr .keyLen 24])).map (fun t => (readReg t .status, readReg t .keyLen)) =
      some (0x00000009, 0) := by decide +kernel
theorem test_wait_stays_while_busy :
    (after (busyWith 3 [.wait, .idle])).map (fun t => (t.response, t.host)) = some (.data 1, [.wait, .idle]) := by
  decide +kernel
theorem test_reset_aborts :
    (after { busyWith 0 [.reset] with key := appBKey }).map (fun t => (readReg t .status, readReg t (.key 0))) =
      some (0, 0) := by decide +kernel
theorem test_ld16 :
    asmLd16 .state (hexBlock 0x3243f6a8885a308d313198a2e0370734) =
      [asmWr (.state 0) 0xa8f64332, asmWr (.state 1) 0x8d305a88, asmWr (.state 2) 0xa2983131,
        asmWr (.state 3) 0x340737e0] := by decide +kernel
theorem test_ld32_uses_eight_key_words :
    (asmLd32 Block.zero (hexBlock 0x101112131415161718191a1b1c1d1e1f)).drop 7 = [asmWr (.key 7) 0x1f1e1d1c] := by
  decide +kernel
theorem test_cmd_finalize : asmCmd (.finalize 16) = .write 0x004 .word 0x0010001a := by decide +kernel

/-! ### Witnesses: states and operands that meet the hypotheses of each statement, clause by clause -/

theorem witness_DecodeOfEncodeIsTheCommand :
    [Instr.addRoundKey 0, .encRound 15, .decRound 15, .finalize 0, .finalize 31, .zeroize].all (·.wellFormed) = true := by
  decide

theorem witness_DecodedWordIsTheOnlySpelling :
    decode 0x001F001A = .command (.finalize 31) ∧ decode 0x00000F07 = .command (.addRoundKey 15) := by decide

/-- Words on both sides of the clauses: the ends of the reserved ranges, and each field at its last bit. -/
theorem witness_IllegalWordsAreTheReservedOnes :
    decode 0x0B = .command .decryptBlock ∧ decode 0x0C = .illegal .reservedOpcode ∧
    decode 0x1F = .command .zeroize ∧ decode 0x20 = .illegal .reservedOpcode ∧
    decode 0x00000F09 = .command (.decRound 15) ∧ decode 0x00001F09 = .illegal .strayBits ∧
    decode 0x001F001A = .command (.finalize 31) ∧ decode 0x003F001A = .illegal .strayBits ∧
    decode 0x00000101 = .illegal .strayBits := by decide

theorem witness_IllegalWordCompletesWithoutEffect :
    completionDue { busyWith 0 [] with pend := 0x0C } = true ∧ decode 0x0C = .illegal .reservedOpcode ∧
    completionDue { busyWith 0 [.wait] with pend := 0x100 } = true ∧ decode 0x100 = .illegal .strayBits := by decide

theorem witness_StepRunsThePendingCommand :
    (let s := { busyWith 0 [.wait] with pend := 0x001F001A }
     s.busy = true ∧ s.delay = 0 ∧ s.host.head? ≠ some .reset ∧ decode s.pend = .command (.finalize 31)) ∧
    (let s := { busyWith 0 [] with pend := 0x3F }
     s.busy = true ∧ s.delay = 0 ∧ s.host.head? ≠ some .reset ∧ decode s.pend = .illegal .reservedOpcode) ∧
    (idleWith []).busy = false ∧ (busyWith 1 []).delay ≠ 0 ∧ (busyWith 0 [.reset]).host.head? = some .reset := by decide

theorem witness_CmdWriteIssuesTheCommand :
    (idleWith [.write 0x004 .word 0xFFFFFFFF, .wait]).busy = false ∧
    (idleWith [.write 0x004 .word 0xFFFFFFFF, .wait]).host = .write 0x004 .word 0xFFFFFFFF :: [.wait] := by decide

theorem witness_CommandInFlightEnds : (busyWith 0 []).busy = true ∧ (busyWith 9 [.wait]).busy = true := by decide

theorem witness_ResetClearsEveryRegister :
    ({ ready .cbc .encrypt with busy := true, host := [.reset, .idle] } : State).host = .reset :: [.idle] := by decide

/-- The first and the last offset of the map, unassigned neighbours, and the two ends outside the window. -/
theorem witness_AddressMapIsOneToOne :
    regAt 0x000 = some .ctrl ∧ regAt 0x1EC = some (.ks 59) ∧ regAt 0x1F0 = none ∧
    (∃ a, a < Config.aesBase ∨ Config.aesBase + 4096 ≤ a) :=
  ⟨by decide, by decide, by decide, Config.aesBase + 4096, .inr (Nat.le_refl _)⟩

theorem witness_RefusedAccessHasNoEffect :
    completionDue (idleWith [.read 0xFFD .word]) = false ∧ (0xFFD : BitVec 12).toNat % 4 ≠ 0 ∧
    completionDue (busyWith 1 [.write 0xFFC .burst 7]) = false ∧ AccessWidth.burst ≠ .word ∧
    completionDue (busyWith 1 [.read 0xFFC .word]) = false ∧ (0xFFC : BitVec 12).toNat % 4 = 0 := by decide

theorem witness_UnassignedAndReadOnlyIgnoreWrites :
    (idleWith [.read 0xFFC .word]).busy = false ∧ (∀ r, regOffset r ≠ (0xFFC : BitVec 12).toNat) ∧
    (∀ r, regOffset r ≠ (0x090 : BitVec 12).toNat) ∧ (0x004 : BitVec 12).toNat % 4 = 0 ∧
    (∀ r, regOffset r = (0x1EC : BitVec 12).toNat →
      r = .gfRes ∨ r = .info ∨ (∃ k, r = .fb k) ∨ (∃ k, r = .dout k) ∨ ∃ i, r = .ks i) := by
  refine ⟨by decide, (regAt_eq_none _).mp (by decide), (regAt_eq_none _).mp (by decide), by decide, ?_⟩
  intro r h
  have last : regAt 0x1EC = some (.ks 59) := by decide
  have eq : r = .ks 59 := Option.some.inj (((regAt_eq_some _ r).mpr h).symm.trans last)
  exact .inr (.inr (.inr (.inr ⟨59, eq⟩)))

theorem witness_WriteWhileBusyIsDropped :
    (busyWith 1 [.write 0xFFC .word 1]).busy = true ∧ (busyWith 1 [.write 0xFFC .word 1]).delay ≠ 0 ∧
    (0xFFC : BitVec 12).toNat % 4 = 0 ∧ (0x004 : BitVec 12).toNat % 4 = 0 := by decide

/-- A busy read of STATUS, of an unassigned offset and of the last register. -/
theorem witness_ReadWhileBusyIsUnspecified :
    (busyWith 1 [.read 0x1EC .word]).busy = true ∧ (busyWith 1 [.read 0x1EC .word]).delay ≠ 0 ∧
    (0x008 : BitVec 12).toNat = regOffset .status ∧ (∀ r, regOffset r ≠ (0x1F0 : BitVec 12).toNat) ∧
    Reg.ks 59 ≠ .status ∧ regOffset (.ks 59) = (0x1EC : BitVec 12).toNat := by
  refine ⟨by decide, by decide, by decide, (regAt_eq_none _).mp (by decide), by decide, by decide⟩

theorem witness_ReadsHaveNoSideEffect :
    (idleWith [asmRd (.ks 59), asmRd (.ks 59), .idle]).busy = false ∧
    (idleWith [asmRd (.ks 59), asmRd (.ks 59), .idle]).host = List.replicate (1 + 1) (asmRd (.ks 59)) ++ [.idle] := by
  decide

/-- A writable register, a read-only one, and the last word of each array the host writes. -/
theorem witness_WrittenRegisterReadsBack :
    ([Reg.key 7, .iv 3, .state 3, .din 3, .keyLen, .ivLen, .gfOps].all fun r =>
      (idleWith [asmWr r 0x0A0B0C0D]).busy = false ∧ r ≠ .cmd ∧ r ≠ .status) = true ∧
    (idleWith [asmWr .ctrl 0xFFFFFFFF]).busy = false ∧ Reg.ctrl ≠ .cmd ∧ Reg.ctrl ≠ .status ∧
    (idleWith [asmWr (.ks 59) 1]).busy = false ∧ Reg.ks 59 ≠ .cmd ∧ Reg.ks 59 ≠ .status := by decide

theorem witness_StatusWriteClearsOnlyOvrAndDone :
    ({ idleWith [asmWr .status 0x10] with ovr := true, doneFlag := true } : State).busy = false ∧
    (0x10 : Word).getLsbD 4 = true ∧ (0x10 : Word).getLsbD 3 = false ∧ (0x08 : Word).getLsbD 3 = true := by decide

theorem witness_InterruptLineFollowsEnableAndDone :
    irq { idleWith [asmWr .status 0x10] with ctrlIe := true, doneFlag := true } = true ∧
    ({ idleWith [asmWr .ctrl 0x100] with doneFlag := true } : State).busy = false ∧ (0x100 : Word).getLsbD 8 = true ∧
    completionDue (busyWith 0 [.wait]) = true ∧ (busyWith 1 [.write 0x100 .word 1]).delay ≠ 0 := by
  decide

/-- A step that keeps DONE, one that clears it, and one that is no completion. -/
theorem witness_EveryCommandCompletes :
    (after { idleWith [asmWr .status 0x08] with doneFlag := true }).map (·.doneFlag) = some true ∧
    (after { idleWith [asmWr .status 0x10] with doneFlag := true }).map (·.doneFlag) = some false ∧
    completionDue (busyWith 1 [asmWr .keyLen 24]) = false ∧
    (after (busyWith 1 [asmWr .keyLen 24])).isSome = true := by decide +kernel

theorem witness_WaitEndsWhenBusyReadsZero :
    completionDue (busyWith 1 [.wait]) = false ∧ (readReg (busyWith 1 [.wait]) .status).getLsbD 0 = true ∧
    completionDue (idleWith [.wait]) = false ∧ (readReg (idleWith [.wait]) .status).getLsbD 0 = false := by decide

/-- An error of each kind, and a step while a command is in flight. -/
theorem witness_ErroringCommandWritesNothingElse :
    (runWord State.reset 0x3F).map (·.err) = some .illegalCommand ∧
    (busyWith 1 [asmWr .ctrl 1]).busy = true ∧ completionDue (busyWith 1 [asmWr .ctrl 1]) = false ∧
    (busyWith 1 [asmWr .ctrl 1]).host.head? ≠ some .reset ∧
    (runWord State.reset 0x19).map (·.err) = some .uninitialized ∧
    (runWord (ready .ctr .encrypt) 0x0011001a).map (·.err) = some .invalidState := by decide +kernel

theorem witness_OnlyZeroizeWritesHostOperands : Instr.keyExpand ≠ .zeroize := by decide

theorem witness_ZeroizeClearsEveryDataRegister :
    dataAndStatus (.ks 59) = true ∧ Reg.ks 59 ≠ .status ∧ dataAndStatus .keyLen = false ∧
    (ready .cbc .encrypt).ovr = false := by decide

/-- Two machines that differ in all key material. -/
theorem witness_ZeroizeForgetsAllKeyMaterial :
    (let s := ready .cbc .encrypt
     let t := { State.reset with keyLen := 16, gfRes := 0x99 }
     readReg s .ctrl = readReg t .ctrl ∧ s.keyLen = t.keyLen ∧ s.ivLen = t.ivLen ∧ s.ovr = t.ovr ∧
      s.delay = t.delay ∧ s.host = t.host ∧ s.response = t.response ∧ s.draws = t.draws ∧ s.key ≠ t.key) := by decide

theorem witness_GfMulIsFieldMultiplication : (0x53 : Byte) ≠ 0 ∧ gfMul 0x53 0xCA = 1 := by decide

theorem witness_SboxTablesAreTheStandardOnes : gfMul 0x01 0x01 = 1 ∧ gfMul 0x53 0xCA = 1 := by decide

/-- The first, a middle and the last legal round, the first illegal one, and a state without a schedule. -/
theorem witness_AddRoundKeyXorsTheRoundKey :
    withSchedule.ksValid = true ∧ withSchedule.nr.toNat ≤ 14 ∧ 0 ≤ withSchedule.nr.toNat ∧ 10 ≤ withSchedule.nr.toNat ∧
    withSchedule.nr.toNat < 11 ∧ State.reset.ksValid = false ∧ 15 < 16 := by decide

theorem witness_EncRoundStepsTheEncryptMachine :
    withSchedule.ksValid = true ∧ (1 ≤ 9 ∧ 9 + 1 ≤ withSchedule.nr.toNat) ∧ (10 ≠ 0 ∧ 10 = withSchedule.nr.toNat) ∧
    withSchedule.nr.toNat < 11 ∧ State.reset.ksValid = false := by decide

theorem witness_DecRoundStepsTheDecryptMirror :
    withSchedule.ksValid = true ∧ 10 = withSchedule.nr.toNat ∧ (1 ≤ 1 ∧ 1 + 1 ≤ withSchedule.nr.toNat) ∧
    0 ≠ withSchedule.nr.toNat ∧ withSchedule.nr.toNat < 15 ∧ State.reset.ksValid = false := by decide

theorem witness_EncryptBlockIsTheRoundsInOrder :
    withSchedule.ksValid = true ∧ 10 ≤ withSchedule.nr.toNat ∧ State.reset.ksValid = false := by decide

theorem witness_DecryptBlockIsTheMirrorInOrder :
    withSchedule.ksValid = true ∧ 0 ≤ withSchedule.nr.toNat ∧ State.reset.ksValid = false := by decide

/-- Each legal size with its length, the ends of the loop's range, and the two ways to fail. -/
theorem witness_KeyExpandFollowsTheRecurrence :
    [(0, 16), (1, 24), (2, 32)].all (fun (ksz, len) =>
      let s : State := { State.reset with ctrlKsz := BitVec.ofNat 2 ksz, keyLen := BitVec.ofNat 8 len }
      s.ctrlKsz ≠ 3 ∧ s.keyLen.toNat = 16 + 8 * s.ctrlKsz.toNat) = true ∧
    (8 ≤ 59 ∧ 59 < 4 * (14 + 1)) ∧ (4 * (10 + 1) ≤ 44 ∧ 44 < 60) ∧ (4 * (12 + 1) ≤ 59 ∧ 59 < 60) ∧
    ({ State.reset with ctrlKsz := 3, keyLen := 40 } : State).ctrlKsz = 3 ∧
    ({ State.reset with keyLen := 17 } : State).keyLen.toNat ≠ 16 + 8 * 0 := by decide

/-- Two machines whose unused key words differ. -/
theorem witness_ScheduleDependsOnlyOnTheKeyUsed :
    (let s := withKey
     let t := { withKey with key := appBKey.set 4 ⟨0xff, 0, 0, 0⟩, din := hexBlock 1 }
     s.ctrlKsz ≠ 3 ∧ t.ctrlKsz = s.ctrlKsz ∧ s.keyLen.toNat = 16 + 8 * s.ctrlKsz.toNat ∧ t.keyLen = s.keyLen ∧
      (∀ i : Fin 8, i.val < 4 + 2 * s.ctrlKsz.toNat → t.key[i] = s.key[i]) ∧ t.key ≠ s.key) := by decide

theorem witness_ModeInitStartsAnInstance :
    (withSchedule.ksValid = true ∧ withSchedule.ctrlMode.toNat ≤ 4 ∧ withSchedule.ctrlMode = 0) ∧
    (let s := { withSchedule with ctrlMode := 4, ivLen := 16 }
     s.ksValid = true ∧ s.ctrlMode.toNat ≤ 4 ∧ s.ivLen = 16) ∧
    State.reset.ksValid = false ∧ 5 ≤ ({ withSchedule with ctrlMode := 5 } : State).ctrlMode.toNat ∧
    (let s := { withSchedule with ctrlMode := 1, ivLen := 15 }
     s.ctrlMode.toNat ≤ 4 ∧ s.ctrlMode ≠ 0 ∧ s.ivLen ≠ 16) := by decide

/-- Every mode and direction, and the two ways to lack an instance. -/
theorem witness_ProcessBlockChainsByMode :
    (∀ mode dir, (ready mode dir).ksValid = true ∧ (ready mode dir).modeValid = true ∧
      (ready mode dir).modeR = mode ∧ (ready mode dir).dirR = dir) ∧
    withSchedule.modeValid = false ∧ State.reset.ksValid = false :=
  ⟨fun _ _ => ⟨rfl, rfl, rfl, rfl⟩, rfl, rfl⟩

/-- The ends of each range of the byte count, in the direction it concerns. -/
theorem witness_FinalizePadsOrStripsTheLastChunk :
    (let s := ready .cfb .encrypt
     s.ksValid = true ∧ s.modeValid = true ∧ s.dirR = .encrypt ∧ (1 ≤ 1 ∧ 1 ≤ 16) ∧ (1 ≤ 16 ∧ 16 ≤ 16) ∧ 16 < 17) ∧
    (let s := ready .ecb .decrypt
     s.ksValid = true ∧ s.modeValid = true ∧ s.dirR = .decrypt ∧ 15 ≠ 0 ∧ 15 ≠ 16 ∧ 31 < 32) ∧
    withSchedule.modeValid = false := by decide

theorem witness_PadAppendsOneMarkerAndZeros : (1 ≤ 1 ∧ 1 ≤ 15) ∧ (1 ≤ 15 ∧ 15 ≤ 15) := by decide

/-- A marker in the last place, one before zeros, none at all, and an all-zero block. -/
theorem witness_StripRemovesZerosAndOneMarker :
    (let x := hexBlock 0x00112233445566778899aabbccddee80
     blockByte x 15 = 0x80) ∧
    (let x := hexBlock 0x80000000000000000000000000000000
     blockByte x 0 = 0x80 ∧ ∀ k < 16, 0 < k → blockByte x k = 0x00) ∧
    (let x := hexBlock 0x01020304000000000000000000000000
     blockByte x 3 = 0x04 ∧ ∀ k < 16, 3 < k → blockByte x k = 0x00) ∧
    (∀ k < 16, blockByte Block.zero k = 0x00) := by decide +kernel

/-- P5 and P7 of 95_test_vectors.md 2.6: a full block with a marker-like tail, and one that ends in zeros. -/
theorem witness_PaddingRoundTripFailsExactlyOnMarkerTails :
    (1 ≤ 16 ∧ 16 ≤ 16) ∧ stripLen (padBlock (hexBlock 0x00112233445566778899aabbccddee80) 16) = 15 ∧
    stripLen (padBlock Block.zero 16) = 16 ∧ stripLen (padBlock Block.zero 1) = 1 := by decide +kernel

theorem witness_StreamsRoundTripInEveryMode (mode : BlockMode) :
    MatchingEnds (ready mode .encrypt) (ready mode .decrypt) := by
  constructor <;> rfl

theorem witness_ShortFinalChunkRoundTrips (mode : BlockMode) :
    MatchingEnds (ready mode .encrypt) (ready mode .decrypt) ∧ (1 ≤ 1 ∧ 1 ≤ 15) ∧ (1 ≤ 15 ∧ 15 ≤ 15) :=
  ⟨witness_StreamsRoundTripInEveryMode mode, by decide, by decide⟩

theorem witness_CounterAdvancesOncePerBlock :
    (ready .ctr .decrypt).ksValid = true ∧ (ready .ctr .decrypt).modeValid = true ∧ (ready .ctr .decrypt).modeR = .ctr := by
  decide

theorem ready_registerInv (mode : BlockMode) (dir : Direction) : RegisterInv (ready mode dir) where
  sizes _ := .inl ⟨rfl, rfl⟩
  noInfo h := absurd h Bool.noConfusion
  noMaterial h := absurd h Bool.noConfusion
  unusedWords := by
    have h : ∀ i : Fin 60, 44 ≤ i.val → (keySchedule 0 appBKey)[i] = Col.zero := by decide +kernel
    exact h
  transform _ := rfl
  outLen := Nat.zero_le 16
  outTail := by
    have h : ∀ k < 16, blockByte Block.zero k = 0 := by decide
    exact fun k _ hk => h k hk
  ecbFeedback _ := rfl

/-- A state with a schedule and an instance, in flight and about to complete PROCESS_BLOCK. -/
theorem witness_StepKeepsTheRegisterInvariant :
    (let s := (ready .cbc .decrypt).withFetchWord 32 0x19
     RegisterInv s ∧ ∃ t, step s = .next t) :=
  have h := ready_registerInv .cbc .decrypt
  ⟨⟨h.sizes, h.noInfo, h.noMaterial, h.unusedWords, h.transform, h.outLen, h.outTail, h.ecbFeedback⟩, _, rfl⟩

theorem witness_StepKeepsTheScheduleExpanded :
    HoldsExpandedSchedule (ready .cbc .decrypt) ∧ ∃ t, step (ready .cbc .decrypt) = .next t :=
  ⟨fun _ => ⟨0, appBKey, by decide, rfl, by decide, by decide⟩, _, rfl⟩

/-- A host write of KEY0 under a valid schedule, and a KEY_EXPAND that makes one valid. -/
theorem witness_StepKeepsTheScheduleExpanded_clauses :
    (after { withSchedule with host := [asmWr (.key 0) 1] }).map (fun t => (t.ksValid, readReg t (.ks 0))) =
      some (true, 0x16157e2b) ∧
    (runWord withKey 0x10).map (·.ksValid) = some true ∧ withKey.ksValid = false ∧
    completionDue (withKey.withFetchWord 32 0x10) = true := by decide +kernel

/-- Before the CMD write, and while the command is in flight. -/
theorem witness_CanonicalProgramsLoseNoWrite :
    (RespectsBusy (idleWith [asmCmd .nop, .wait, asmWr .ctrl 1]) ∧ State.reset.ovr = false ∧
      ∃ t, step (idleWith [asmCmd .nop, .wait, asmWr .ctrl 1]) = .next t) ∧
    RespectsBusy (busyWith 2 [.wait, asmWr .ctrl 1]) :=
  ⟨⟨⟨by decide, by decide⟩, rfl, _, rfl⟩, by decide, by decide⟩

theorem witness_PendIsUnobservableWhileIdle : (idleWith [asmRd .status]).busy = false := by decide

end Sys2Proof.Tests
end

section
/-!
PROOFS. What commands and the reset event alone write, and the two invariants of the registers between
steps: the register file (RegisterInv) and the expanded schedule (HoldsExpandedSchedule).
-/
namespace Sys2Proof

open Sys2Proof.Machine

/-! ### The registers the host cannot write -/

/-- The registers and flags both invariants speak of: only commands and the reset event write them (R30, R33). -/
structure SameEngineRegs (s t : State) : Prop where
  ks : t.ks = s.ks
  nk : t.nk = s.nk
  nr : t.nr = s.nr
  modeR : t.modeR = s.modeR
  dirR : t.dirR = s.dirR
  fb : t.fb = s.fb
  dout : t.dout = s.dout
  outLen : t.outLen = s.outLen
  ksValid : t.ksValid = s.ksValid
  modeValid : t.modeValid = s.modeValid

theorem complete_sameEngineRegs (c : ErrCode) (s : State) : SameEngineRegs s (complete c s) := by
  constructor <;> rfl

theorem putState_sameEngineRegs (b : Block) (s : State) : SameEngineRegs s (putState b s) := by
  constructor <;> rfl

theorem putGfRes_sameEngineRegs (v : Byte) (s : State) : SameEngineRegs s (putGfRes v s) := by
  constructor <;> rfl

theorem hardReset_sameEngineRegs (l : List HostEvent) (s : State) :
    SameEngineRegs State.reset (hardReset l s) := by
  constructor <;> rfl

theorem writeReg_sameEngineRegs (r : Reg) (v : Word) (s : State) : SameEngineRegs s (writeReg r v s) := by
  cases r <;> constructor <;> rfl

theorem busRead_sameEngineRegs (off : BitVec 12) (width : AccessWidth) (s : State) :
    SameEngineRegs s (busRead off width s) := by
  obtain ⟨a, h | h⟩ := busRead_cases off width s <;> rw [h] <;> constructor <;> rfl

theorem busWrite_sameEngineRegs (off : BitVec 12) (width : AccessWidth) (v : Word) (s : State) :
    SameEngineRegs s (busWrite off width v s) := by
  obtain ⟨a, h, -⟩ | ⟨-, -, h⟩ | ⟨-, -, r, -, h⟩ := busWrite_cases off width v s <;> rw [h]
  · constructor <;> rfl
  · constructor <;> rfl
  · exact { writeReg_sameEngineRegs r v s with }

/-- The host's turn is a reset, or leaves what only commands write. -/
theorem hostTurn_cases (s : State) :
    SameEngineRegs s (hostTurn s) ∨
      (s.host.head? = some .reset ∧ ∃ l, hostTurn s = hardReset l s) := by
  match h : s.host with
  | [] => rw [hostTurn_nil h]; exact .inl (by constructor <;> rfl)
  | .read off w :: l => rw [hostTurn_read h]; exact .inl { busRead_sameEngineRegs off w (nextSlot l s) with }
  | .write off w v :: l => rw [hostTurn_write h]; exact .inl { busWrite_sameEngineRegs off w v (nextSlot l s) with }
  | .wait :: l => rw [hostTurn_wait h]; exact .inl (by constructor <;> rfl)
  | .reset :: l => exact .inr ⟨rfl, l, hostTurn_reset h⟩
  | .idle :: l => rw [hostTurn_idle h]; exact .inl (by constructor <;> rfl)

/-- Everything a step can do to these registers: nothing, a reset, or the effect of the command that completes. -/
theorem step_engine_cases {s t : State} (h : step s = .next t) :
    SameEngineRegs s t ∨ (s.host.head? = some .reset ∧ ∃ l, t = hardReset l s) ∨
      ∃ i e, completionDue s = true ∧ decode s.pend = .command i ∧ Effect i s e ∧ t = complete .none e := by
  obtain ⟨hdue, i, hdec, hstep⟩ | ⟨-, why, -, hstep⟩ | ⟨-, hstep⟩ := step_cases s <;> rw [hstep] at h
  · obtain ⟨code, e, hexec, ⟨rfl, he⟩ | ⟨-, rfl⟩⟩ := exec_cases i s <;> cases hexec.symm.trans h
    · exact .inr (.inr ⟨i, e, hdue, hdec, he, rfl⟩)
    · exact .inl (complete_sameEngineRegs code e)
  · cases h
    exact .inl (complete_sameEngineRegs .illegalCommand s)
  · cases h
    obtain hsame | ⟨hhead, l, hl⟩ := hostTurn_cases s
    · exact .inl hsame
    · exact .inr (.inl ⟨hhead, l, hl⟩)

/-! ### The words of a schedule -/

@[simp] theorem length_expandLoop (nk n : Nat) (rc : Byte) (w : List Col) :
    (expandLoop nk n rc w).length = w.length + n := by
  induction n generalizing rc w with
  | zero => rfl
  | succ n ih => simp only [expandLoop, ih, List.length_append, List.length_singleton]; omega

/-- A schedule has 4·(Nr + 1) words (R212). -/
theorem length_scheduleWords {ksz : Nat} (h : ksz ≤ 2) (key : Vector Col 8) :
    (scheduleWords ksz key).length = 4 * (nrOf ksz + 1) := by
  simp only [scheduleWords, length_expandLoop, List.length_take, Vector.length_toList, nrOf, nkOf]
  omega

/-- "Words `i >= 4·(NR+1)` are 0 after a KEY_EXPAND" (R45). -/
theorem keySchedule_unused {ksz : Nat} (h : ksz ≤ 2) (key : Vector Col 8) {i : Fin 60}
    (hi : 4 * (nrOf ksz + 1) ≤ i.val) : (keySchedule ksz key)[i] = Col.zero := by
  have hlen : (scheduleWords ksz key).length ≤ i.val := by rwa [length_scheduleWords h]
  simp [keySchedule, hlen]

/-- INFO.NK holds every Nk of R9. -/
theorem toNat_nkOf {ksz : Nat} (h : ksz ≤ 2) : (BitVec.ofNat 4 (nkOf ksz)).toNat = nkOf ksz := by
  simp only [BitVec.toNat_ofNat, nkOf]; omega

/-- INFO.NR holds every Nr of R9. -/
theorem toNat_nrOf {ksz : Nat} (h : ksz ≤ 2) : (BitVec.ofNat 4 (nrOf ksz)).toNat = nrOf ksz := by
  simp only [BitVec.toNat_ofNat, nrOf, nkOf]; omega

/-- A CTRL.KSZ that KEY_EXPAND accepts is one of the three sizes (R32, R211). -/
theorem keySizeOperand_le_two {s : State} (h : s.ctrlKsz ≠ 3) : keySizeOperand s ≤ 2 := by
  unfold keySizeOperand
  bv_omega

/-! ### The register invariant -/

/-- The register invariant speaks of the registers the host cannot write, and of no others. -/
theorem RegisterInv.congr {s t : State} (h : RegisterInv s) (same : SameEngineRegs s t) : RegisterInv t := by
  obtain ⟨hks, hnk, hnr, hmode, hdir, hfb, hdout, hlen, hkv, hmv⟩ := same
  constructor <;> simp only [hks, hnk, hnr, hmode, hdir, hfb, hdout, hlen, hkv, hmv]
  exacts [h.sizes, h.noInfo, h.noMaterial, h.unusedWords, h.transform, h.outLen, h.outTail, h.ecbFeedback]

theorem registerInv_reset : RegisterInv State.reset where
  sizes h := by cases h
  noInfo _ := ⟨rfl, rfl, rfl, rfl⟩
  noMaterial _ i := by simp [State.reset]
  unusedWords i _ := by simp [State.reset]
  transform h := by cases h
  outLen := by decide
  outTail k _ hk := by interval_cases k <;> rfl
  ecbFeedback _ := rfl

/-- ZEROIZE leaves these registers as the reset event does (R281). -/
theorem clearData_sameEngineRegs (s : State) : SameEngineRegs State.reset (clearData s) := by
  constructor <;> rfl

/-- KEY_EXPAND (R211): one of the three sizes, and 0 in the words past the schedule. -/
theorem RegisterInv.putSchedule {s : State} (h : RegisterInv s) {ksz : Nat} (hk : ksz ≤ 2) (key : Vector Col 8) :
    RegisterInv (Machine.putSchedule ksz (keySchedule ksz key) s) :=
  { h with
    sizes := fun _ => by interval_cases ksz <;> simp [nkOf, nrOf]
    noInfo := fun h => by cases h
    noMaterial := fun h => by cases h
    unusedWords := fun i hi => keySchedule_unused hk key (by rwa [putSchedule_nr, toNat_nrOf hk] at hi)
    transform := fun h => by cases h }

/-- The supported mode that CTRL.MODE selects is ECB for 0 only (R32). -/
theorem selectedMode_eq_ecb {s : State} (hm : s.ctrlMode ≤ 4) (h : selectedMode s = .ecb) : s.ctrlMode = 0 := by
  revert hm h
  unfold selectedMode
  generalize s.ctrlMode = m
  revert m
  decide

/-- MODE_INIT (R232) runs under a valid schedule, and in ECB FB starts at 0. -/
theorem RegisterInv.putTransform {s : State} (h : RegisterInv s) (hk : s.ksValid = true) (hm : s.ctrlMode ≤ 4) :
    RegisterInv (Machine.putTransform (selectedMode s) s.ctrlDir (initialFeedback s) s) :=
  { h with
    noInfo := fun hf => by simp [hk] at hf
    transform := fun _ => hk
    ecbFeedback := fun he => if_pos (selectedMode_eq_ecb hm he) }

/-- An output of `n` bytes with zeros after them, and in ECB no feedback (R44, R41). -/
theorem RegisterInv.putOutput {s : State} (h : RegisterInv s) {d fb : Block} {n : Nat} (hn : n ≤ 16)
    (htail : ∀ k, n ≤ k → k < 16 → blockByte d k = 0) (hfb : s.modeR = .ecb → fb = s.fb) :
    RegisterInv (Machine.putOutput d n fb s) := by
  have hlen : (BitVec.ofNat 5 n).toNat = n := by simp only [BitVec.toNat_ofNat]; omega
  exact { h with
    outLen := by rwa [putOutput_outLen, hlen]
    outTail := by rwa [putOutput_outLen, hlen]
    ecbFeedback := fun he => (hfb he).trans (h.ecbFeedback he) }

/-- ECB leaves the feedback register (R233). -/
theorem modeStep_feedback_of_ecb {s : State} (h : s.modeR = .ecb) (x : Block) : (modeStep s x).2 = s.fb := by
  unfold modeStep
  rw [h]
  cases s.dirR <;> rfl

theorem stripLen_le (x : Block) : stripLen x ≤ 16 := by
  have hlen : ((blockBytes x).reverse.dropWhile (· == 0x00)).length ≤ 16 := (List.dropWhile_sublist _).length_le
  unfold stripLen
  split
  · rename_i heq
    rw [heq, List.length_cons] at hlen
    split <;> omega
  · rfl

/-- FINALIZE (R241): nothing, a whole block, or a block cut at its padding. -/
theorem RegisterInv.finalizeEffect {s : State} (h : RegisterInv s) (n : Nat) :
    RegisterInv (Machine.finalizeEffect n s) := by
  unfold Machine.finalizeEffect
  split
  · exact h.putOutput (by omega) (fun k _ hk => by interval_cases k <;> rfl) fun _ => rfl
  · split
    · exact h.putOutput (by omega) (fun k _ _ => by omega) fun he => modeStep_feedback_of_ecb he _
    · exact h.putOutput (stripLen_le _)
        (fun k hk hk' => by rw [keepBytes, blockByte_blockOfBytes _ hk', if_neg (by omega)])
        fun he => modeStep_feedback_of_ecb he _

/-- No command breaks the register invariant. -/
theorem Machine.Effect.registerInv {i : Instr} {s e : State} (h : Effect i s e) (hs : RegisterInv s) :
    RegisterInv e := by
  cases i with
  | nop => exact h ▸ hs
  | subBytes | invSubBytes | shiftRows | invShiftRows | mixColumns | invMixColumns =>
    exact h ▸ hs.congr (putState_sameEngineRegs _ _)
  | gfMul | sboxFwd | sboxInv => exact h ▸ hs.congr (putGfRes_sameEngineRegs _ _)
  | addRoundKey | encRound | decRound =>
    obtain ⟨-, -, rfl⟩ := h
    exact hs.congr (putState_sameEngineRegs _ _)
  | encryptBlock | decryptBlock =>
    obtain ⟨-, rfl⟩ := h
    exact hs.congr (putState_sameEngineRegs _ _)
  | keyExpand =>
    obtain ⟨hksz, -, rfl⟩ := h
    exact hs.putSchedule (keySizeOperand_le_two hksz) _
  | modeInit =>
    obtain ⟨hk, hm, -, rfl⟩ := h
    exact hs.putTransform hk hm
  | processBlock =>
    obtain ⟨-, -, rfl⟩ := h
    exact hs.putOutput (by omega) (fun k _ _ => by omega) fun he => modeStep_feedback_of_ecb he _
  | finalize n =>
    obtain ⟨-, -, -, -, rfl⟩ := h
    exact hs.finalizeEffect n
  | zeroize => exact h ▸ registerInv_reset.congr (clearData_sameEngineRegs s)

/-- Settles O57, by what a step can do to the registers the invariant speaks of. -/
theorem stepKeepsTheRegisterInvariant : Obligations.StepKeepsTheRegisterInvariant := by
  intro s t hs hstep
  obtain hsame | ⟨-, l, rfl⟩ | ⟨i, e, -, -, he, rfl⟩ := step_engine_cases hstep
  · exact hs.congr hsame
  · exact registerInv_reset.congr (hardReset_sameEngineRegs l s)
  · exact (he.registerInv hs).congr (complete_sameEngineRegs .none e)

/-! ### The expanded schedule -/

/-- The schedule, its sizes and its flag are as before (R214). -/
def SameSchedule (s t : State) : Prop := t.ks = s.ks ∧ t.nk = s.nk ∧ t.nr = s.nr ∧ t.ksValid = s.ksValid

theorem SameEngineRegs.sameSchedule {s t : State} (h : SameEngineRegs s t) : SameSchedule s t :=
  ⟨h.ks, h.nk, h.nr, h.ksValid⟩

theorem HoldsExpandedSchedule.congr {s t : State} (h : HoldsExpandedSchedule s) (same : SameSchedule s t) :
    HoldsExpandedSchedule t := by
  obtain ⟨hks, hnk, hnr, hkv⟩ := same
  simpa only [HoldsExpandedSchedule, hks, hnk, hnr, hkv] using h

theorem holdsExpandedSchedule_of_not_valid {s : State} (h : s.ksValid = false) : HoldsExpandedSchedule s :=
  fun hk => by simp [h] at hk

/-- KEY_EXPAND leaves the expansion of the key registers (R211). -/
theorem holdsExpandedSchedule_putSchedule {ksz : Nat} (h : ksz ≤ 2) (key : Vector Col 8) (s : State) :
    HoldsExpandedSchedule (putSchedule ksz (keySchedule ksz key) s) :=
  fun _ => ⟨ksz, key, h, rfl, toNat_nkOf h, toNat_nrOf h⟩

/-- Everything a step can do to the schedule: keep it, discard it by a reset or a completing ZEROIZE, or hold a new
one by a completing KEY_EXPAND. -/
theorem step_schedule_cases {s t : State} (h : step s = .next t) :
    SameSchedule s t ∨
    (t.ksValid = false ∧
      (s.host.head? = some .reset ∨ (completionDue s = true ∧ decode s.pend = .command .zeroize))) ∨
    (HoldsExpandedSchedule t ∧ completionDue s = true ∧ decode s.pend = .command .keyExpand) := by
  obtain hsame | ⟨hhead, l, rfl⟩ | ⟨i, e, hdue, hdec, he, rfl⟩ := step_engine_cases h
  · exact .inl hsame.sameSchedule
  · exact .inr (.inl ⟨rfl, .inl hhead⟩)
  · by_cases hk : i = .keyExpand
    · subst hk
      obtain ⟨hksz, -, rfl⟩ := he
      have hexp := holdsExpandedSchedule_putSchedule (keySizeOperand_le_two hksz) s.key s
      exact .inr (.inr ⟨hexp.congr (complete_sameEngineRegs _ _).sameSchedule, hdue, hdec⟩)
    by_cases hz : i = .zeroize
    · subst hz
      cases he
      exact .inr (.inl ⟨rfl, .inr ⟨hdue, hdec⟩⟩)
    · exact .inl (he.schedule hk hz)

/-- Settles O58, by what a step can do to the schedule. -/
theorem stepKeepsTheScheduleExpanded : Obligations.StepKeepsTheScheduleExpanded := by
  refine ⟨fun s t hs hstep => ?_, fun s t hstep => ?_, fun s t hstep hvalid => ?_⟩
  all_goals obtain hsame | ⟨hnot, hcause⟩ | ⟨hexp, hdue, hdec⟩ := step_schedule_cases hstep
  · exact hs.congr hsame
  · exact holdsExpandedSchedule_of_not_valid hnot
  · exact hexp
  · exact .inl hsame
  · exact .inr (hcause.imp_right fun ⟨hdue, hdec⟩ => ⟨hdue, .inr hdec⟩)
  · exact .inr (.inr ⟨hdue, .inl hdec⟩)
  · obtain ⟨-, -, -, hkv⟩ := hsame
    exact .inl (hkv ▸ hvalid)
  · simp [hnot] at hvalid
  · exact .inr ⟨hdue, hdec⟩

/-- Settles O56: the state after reset has no schedule. -/
theorem invariantsHoldAtReset : Obligations.InvariantsHoldAtReset :=
  ⟨registerInv_reset, holdsExpandedSchedule_of_not_valid rfl⟩

end Sys2Proof
end

section
/-!
PROOFS. The registers as the host sees them: where they stand, how their fields are laid out, and what a write
changes; and what commands leave of the host's operands.
-/
namespace Sys2Proof

open Sys2Proof.Machine

/-! ### The address map -/

/-- An access inside the window reaches its offset (R81). -/
theorem deliver_inside (off : BitVec 12) (access : BitVec 12 → HostEvent) :
    deliver (Config.aesBase + off.toNat) access = access off := by
  have hin : Config.aesBase ≤ Config.aesBase + off.toNat ∧ Config.aesBase + off.toNat < Config.aesBase + 4096 := by
    omega
  simp [deliver, hin]

/-- An access outside the window is no event of this block (R81; log entry 9). -/
theorem deliver_outside {address : Nat} (h : address < Config.aesBase ∨ Config.aesBase + 4096 ≤ address)
    (access : BitVec 12 → HostEvent) : deliver address access = .idle :=
  if_neg (by omega)

/-- Settles O11, by the uniqueness of the register at an offset. -/
theorem addressMapIsOneToOne : Obligations.AddressMapIsOneToOne := by
  refine ⟨?_, fun r => ⟨regAt_regOffset r, regOffset_aligned r, regOffset_lt r⟩,
    fun off r h => ((regAt_eq_some off r).mp h).symm, deliver_inside,
    fun address access h => deliver_outside h access, Nat.mul_mod_right 4096 _⟩
  exact ⟨rfl, rfl, rfl, rfl, rfl, rfl, rfl, rfl, fun _ => rfl, fun _ => rfl, fun _ => rfl, fun _ => rfl,
    fun _ => rfl, fun _ => rfl, fun _ => rfl⟩

/-! ### Operands that commands leave -/

/-- Settles O24: no effect writes CTRL, KEY_LEN or IV_LEN, and ZEROIZE's alone the other operands. -/
theorem onlyZeroizeWritesHostOperands : Obligations.OnlyZeroizeWritesHostOperands := by
  intro i s
  obtain ⟨code, e, hexec, ⟨-, he⟩ | ⟨-, rfl⟩⟩ := exec_cases i s
  · obtain ⟨-, hmode, hdir, hksz, hie, hkl, hil, -⟩ := he.untouched
    refine ⟨_, hexec, ?_, ?_, ?_, fun hi => ?_⟩
    · simp [readReg, ctrlWord, hmode, hdir, hksz, hie]
    · simp [readReg, hkl]
    · simp [readReg, hil]
    · obtain ⟨ha, hb, hkey, hiv, hdin⟩ := he.operands hi
      simp [readReg, ha, hb, hkey, hiv, hdin]
  · exact ⟨_, hexec, rfl, rfl, rfl, fun _ => ⟨rfl, fun _ => rfl, fun _ => rfl, fun _ => rfl⟩⟩

/-! ### The layout of the registers as read -/

@[simp] theorem dirBit_dirOfBit (b : Bool) : dirBit (dirOfBit b) = BitVec.ofBool b := by
  cases b <;> rfl

theorem dirOfBit_eq_decrypt (b : Bool) : dirOfBit b = .decrypt ↔ b = true := by
  cases b <;> simp [dirOfBit]

/-- A field of a register word, from its bits. -/
theorem extractLsb'_eq_of_bits {w : Word} {n start : Nat} {field : BitVec n}
    (h : ∀ i < n, w.getLsbD (start + i) = field.getLsbD i) : w.extractLsb' start n = field := by
  apply BitVec.eq_of_getLsbD_eq
  intro i hi
  simp [hi, h i hi]

/-- CTRL: MODE, DIR, KSZ and IE stand at [2:0], 3, [5:4] and 8 (R32). -/
theorem ctrlWord_fields (s : State) :
    (ctrlWord s).extractLsb' 0 3 = s.ctrlMode ∧ ((ctrlWord s).getLsbD 3 = true ↔ s.ctrlDir = .decrypt) ∧
      (ctrlWord s).extractLsb' 4 2 = s.ctrlKsz ∧ (ctrlWord s).getLsbD 8 = s.ctrlIe := by
  refine ⟨extractLsb'_eq_of_bits fun i hi => ?_, ?_, extractLsb'_eq_of_bits fun i hi => ?_, ?_⟩
  all_goals simp only [ctrlWord, BitVec.getLsbD_append]
  · interval_cases i <;> simp
  · cases s.ctrlDir <;> simp [dirBit]
  · interval_cases i <;> simp
  · simp

/-- STATUS: the flags above BUSY stand at bits 1 to 4 (R33). -/
theorem statusWord_flags (s : State) :
    (statusWord s).getLsbD 1 = s.ksValid ∧ (statusWord s).getLsbD 2 = s.modeValid ∧
      (statusWord s).getLsbD 3 = s.ovr ∧ (statusWord s).getLsbD 4 = s.doneFlag := by
  simp only [statusWord, BitVec.getLsbD_append]
  simp

/-- STATUS: OUT_LEN stands at [20:16], and the reserved bits read 0 (R33). -/
theorem statusWord_outLen_reserved (s : State) :
    (statusWord s).extractLsb' 5 3 = 0 ∧ (statusWord s).extractLsb' 12 4 = 0 ∧
      (statusWord s).extractLsb' 16 5 = s.outLen ∧ (statusWord s).extractLsb' 21 11 = 0 := by
  refine ⟨?_, ?_, ?_, ?_⟩
  all_goals
    refine extractLsb'_eq_of_bits fun i hi => ?_
    simp only [statusWord, BitVec.getLsbD_append]
    interval_cases i <;> simp

/-- GF_OPS: A and B stand at [7:0] and [15:8] (R36). -/
theorem gfOpsWord_fields (s : State) :
    (readReg s .gfOps).extractLsb' 0 8 = s.gfA ∧ (readReg s .gfOps).extractLsb' 8 8 = s.gfB := by
  constructor
  all_goals
    refine extractLsb'_eq_of_bits fun i hi => ?_
    simp only [readReg, BitVec.getLsbD_append]
    interval_cases i <;> simp

/-- Byte `4k + j` of a 16-byte register is lane `j` of its word `k`, as read (R16, R82). -/
theorem extract_le32_blockCol (b : Block) (k j : Fin 4) :
    (le32 (blockCol b k)).extractLsb' (8 * j.val) 8 = blockByte b (4 * k.val + j.val) := by
  rw [extract_le32, colByte_blockCol]

/-- Byte `4k + j` of a 16-byte register is lane `j` of its word `k`, as written (R16, R82). -/
theorem blockByte_setBlockCol (b : Block) (k j : Fin 4) (v : Word) :
    blockByte (setBlockCol b k (colOfLe32 v)) (4 * k.val + j.val) = v.extractLsb' (8 * j.val) 8 := by
  rw [← colByte_blockCol, blockCol_setBlockCol, if_pos rfl, colByte_colOfLe32]

/-! ### What a host write changes -/

/-- The bits of a register that a host write stores: those of its writable fields (R30, R32, R34-R36, R90). A write
of CMD issues and one of STATUS clears flags; neither stores its value. -/
def writableMask : Reg → Word
  | .ctrl => 0x13F
  | .keyLen | .ivLen => 0xFF
  | .gfOps => 0xFFFF
  | .key _ | .iv _ | .state _ | .din _ => 0xFFFFFFFF
  | _ => 0

/-- A word that has the bits of `v` under the mask and those of `w` elsewhere. -/
theorem eq_masked_of_bits {x v w mask : Word}
    (h : ∀ i < 32, x.getLsbD i = if mask.getLsbD i then v.getLsbD i else w.getLsbD i) :
    x = (v &&& mask) ||| (w &&& ~~~mask) := by
  apply BitVec.eq_of_getLsbD_eq
  intro i hi
  rw [h i hi, BitVec.getLsbD_or, BitVec.getLsbD_and, BitVec.getLsbD_and, BitVec.getLsbD_not]
  cases mask.getLsbD i <;> simp [hi]

theorem eq_masked_all (v w : Word) : v = (v &&& 0xFFFFFFFF) ||| (w &&& ~~~0xFFFFFFFF) :=
  eq_masked_of_bits fun i hi => by interval_cases i <;> rfl

theorem eq_masked_none (v w : Word) : w = (v &&& 0) ||| (w &&& ~~~0) :=
  eq_masked_of_bits fun i _ => by simp

/-- An 8-bit field at [7:0], the other bits reserved (R34, R35). -/
theorem lowByte_eq_masked (v : Word) (b : Byte) :
    (v.extractLsb' 0 8).zeroExtend 32 = (v &&& 0xFF) ||| (b.zeroExtend 32 &&& ~~~0xFF) :=
  eq_masked_of_bits fun i hi => by interval_cases i <;> simp

/-- A write of CTRL stores MODE, DIR, KSZ and IE (R32). -/
theorem ctrlWord_writeCtrl (v : Word) (s : State) :
    ctrlWord (writeCtrl v s) = (v &&& 0x13F) ||| (ctrlWord s &&& ~~~0x13F) :=
  eq_masked_of_bits fun i hi => by
    simp only [ctrlWord, writeCtrl, BitVec.getLsbD_append]
    interval_cases i <;> simp

/-- A write of GF_OPS stores A and B (R36). -/
theorem gfOpsWord_putGfOps (v : Word) (s : State) :
    readReg (putGfOps v s) .gfOps = (v &&& 0xFFFF) ||| (readReg s .gfOps &&& ~~~0xFFFF) :=
  eq_masked_of_bits fun i hi => by
    simp only [readReg, putGfOps, BitVec.getLsbD_append]
    interval_cases i <;> simp

/-- A written register reads as written on its writable bits and as before elsewhere (R30, R90). -/
theorem readReg_writeReg_same {r : Reg} (hc : r ≠ .cmd) (hs : r ≠ .status) (v : Word) (s : State) :
    readReg (writeReg r v s) r = (v &&& writableMask r) ||| (readReg s r &&& ~~~writableMask r) := by
  cases r with
  | cmd => exact absurd rfl hc
  | status => exact absurd rfl hs
  | ctrl => exact ctrlWord_writeCtrl v s
  | keyLen => exact lowByte_eq_masked v s.keyLen
  | ivLen => exact lowByte_eq_masked v s.ivLen
  | gfOps => exact gfOpsWord_putGfOps v s
  | key | iv | state | din => rw [writableMask, ← eq_masked_all]; simp [readReg, writeReg]
  | gfRes | info | fb | dout | ks => exact eq_masked_none v _

theorem readReg_writeCtrl {q : Reg} (h : q ≠ .ctrl) (v : Word) (s : State) :
    readReg (writeCtrl v s) q = readReg s q := by
  cases q with
  | ctrl => exact absurd rfl h
  | _ => rfl

theorem readReg_writeStatus {q : Reg} (h : q ≠ .status) (v : Word) (s : State) :
    readReg (writeStatus v s) q = readReg s q := by
  cases q with
  | status => exact absurd rfl h
  | _ => rfl

theorem readReg_putKeyLen {q : Reg} (h : q ≠ .keyLen) (v : Word) (s : State) :
    readReg (putKeyLen v s) q = readReg s q := by
  cases q with
  | keyLen => exact absurd rfl h
  | _ => rfl

theorem readReg_putIvLen {q : Reg} (h : q ≠ .ivLen) (v : Word) (s : State) :
    readReg (putIvLen v s) q = readReg s q := by
  cases q with
  | ivLen => exact absurd rfl h
  | _ => rfl

theorem readReg_putGfOps {q : Reg} (h : q ≠ .gfOps) (v : Word) (s : State) :
    readReg (putGfOps v s) q = readReg s q := by
  cases q with
  | gfOps => exact absurd rfl h
  | _ => rfl

theorem readReg_putKeyWord {q : Reg} {i : Fin 8} (h : q ≠ .key i) (v : Word) (s : State) :
    readReg (putKeyWord i v s) q = readReg s q := by
  cases q with
  | key j =>
    have hij : i.val ≠ j.val := fun hij => h (congrArg Reg.key (Fin.ext hij.symm))
    simp [readReg, Vector.getElem_set_ne _ _ hij]
  | _ => rfl

/-- Replacing one word of a 16-byte register leaves the other three (R90). -/
theorem le32_blockCol_setBlockCol_ne {k q : Fin 4} (h : q ≠ k) (b : Block) (w : Col) :
    le32 (blockCol (setBlockCol b k w) q) = le32 (blockCol b q) := by
  rw [blockCol_setBlockCol, if_neg h]

theorem readReg_putIvWord {q : Reg} {k : Fin 4} (h : q ≠ .iv k) (v : Word) (s : State) :
    readReg (putIvWord k v s) q = readReg s q := by
  cases q with
  | iv j => exact le32_blockCol_setBlockCol_ne (fun hj => h (congrArg Reg.iv hj)) _ _
  | _ => rfl

theorem readReg_putStateWord {q : Reg} {k : Fin 4} (h : q ≠ .state k) (v : Word) (s : State) :
    readReg (putStateWord k v s) q = readReg s q := by
  cases q with
  | state j => exact le32_blockCol_setBlockCol_ne (fun hj => h (congrArg Reg.state hj)) _ _
  | _ => rfl

theorem readReg_putDinWord {q : Reg} {k : Fin 4} (h : q ≠ .din k) (v : Word) (s : State) :
    readReg (putDinWord k v s) q = readReg s q := by
  cases q with
  | din j => exact le32_blockCol_setBlockCol_ne (fun hj => h (congrArg Reg.din hj)) _ _
  | _ => rfl

/-- A write of a register but CMD changes no other register (R90). -/
theorem readReg_writeReg_other {q r : Reg} (hc : r ≠ .cmd) (h : q ≠ r) (v : Word) (s : State) :
    readReg (writeReg r v s) q = readReg s q := by
  cases r with
  | cmd => exact absurd rfl hc
  | ctrl => exact readReg_writeCtrl h v s
  | status => exact readReg_writeStatus h v s
  | keyLen => exact readReg_putKeyLen h v s
  | ivLen => exact readReg_putIvLen h v s
  | gfOps => exact readReg_putGfOps h v s
  | key => exact readReg_putKeyWord h v s
  | iv => exact readReg_putIvWord h v s
  | state => exact readReg_putStateWord h v s
  | din => exact readReg_putDinWord h v s
  | gfRes | info | fb | dout | ks => rfl

theorem writeReg_pend {r : Reg} (hc : r ≠ .cmd) (v : Word) (s : State) : (writeReg r v s).pend = s.pend := by
  cases r with
  | cmd => exact absurd rfl hc
  | _ => rfl

@[simp] theorem writeReg_host (r : Reg) (v : Word) (s : State) : (writeReg r v s).host = s.host := by
  cases r <;> rfl

/-- A `wr` of the host assembly with BUSY = 0 is the write of its register (R89, R118). -/
theorem step_asmWr {s : State} {r : Reg} {v : Word} {rest : List HostEvent} (hb : s.busy = false)
    (hh : s.host = asmWr r v :: rest) : step s = .next (respond .ack (writeReg r v (nextSlot rest s))) := by
  rw [step_eq_hostTurn (completionDue_eq_false_of_idle hb), hostTurn_write hh, busWrite_idle (by simpa using hb)]

/-- Settles O17, by what a write does to the register written and to the others, field by field. -/
theorem writtenRegisterReadsBack : Obligations.WrittenRegisterReadsBack := by
  refine ⟨?_, fun s => ?_⟩
  · intro s r v rest hb hc hs hh mask
    have hmask : mask = writableMask r := by cases r <;> rfl
    refine ⟨_, step_asmWr hb hh, ?_, fun q hq => ?_, ?_, ?_, ?_, ?_, ?_, ?_, ?_, ?_, ?_, ?_⟩
    · rw [hmask, readReg_respond, readReg_writeReg_same hc hs, readReg_nextSlot]
    · rw [readReg_respond, readReg_writeReg_other hc hq, readReg_nextSlot]
    · exact writeReg_pend hc v _
    · simp
    · rintro rfl
      exact ⟨rfl, dirOfBit_eq_decrypt _, rfl, rfl⟩
    · rintro rfl; rfl
    · rintro rfl; rfl
    · rintro rfl; exact ⟨rfl, rfl⟩
    · rintro i rfl j
      simp [writeReg, colByte_colOfLe32]
    all_goals
      rintro k rfl j
      exact blockByte_setBlockCol _ _ _ _
  · obtain ⟨hA, hB⟩ := gfOpsWord_fields s
    exact ⟨ctrlWord_fields s, rfl, rfl, hA, hB, rfl, fun _ j => extract_le32 _ j, fun k j =>
      ⟨extract_le32_blockCol _ k j, extract_le32_blockCol _ k j, extract_le32_blockCol _ k j,
        extract_le32_blockCol _ k j, extract_le32_blockCol _ k j⟩⟩

/-- Writing 1 clears a flag and writing 0 keeps it (R33). -/
theorem and_not_eq_ite (flag w1c : Bool) : (flag && !w1c) = if w1c then false else flag := by
  cases w1c <;> simp

/-- Settles O18, by the write-one-to-clear rule of STATUS and its layout. -/
theorem statusWriteClearsOnlyOvrAndDone : Obligations.StatusWriteClearsOnlyOvrAndDone := by
  refine ⟨fun s v rest hb hh => ?_, fun s => ?_⟩
  · refine ⟨_, step_asmWr hb hh, hb, rfl, rfl, rfl, rfl, fun q hq => ?_, ?_, ?_⟩
    · have hne : q ≠ .status := by rintro rfl; cases hq
      rw [readReg_respond, readReg_writeReg_other (by decide) hne, readReg_nextSlot]
    · exact and_not_eq_ite s.ovr (v.getLsbD 3)
    · exact and_not_eq_ite s.doneFlag (v.getLsbD 4)
  · obtain ⟨hks, hmode, hovr, hdone⟩ := statusWord_flags s
    obtain ⟨h5, h12, hlen, h21⟩ := statusWord_outLen_reserved s
    exact ⟨statusWord_busy s, hks, hmode, hovr, hdone, h5, h12, hlen, h21⟩

end Sys2Proof
end

section
/-!
PROOFS. PEND while BUSY = 0: no turn of the host reads it (R46).
-/
namespace Sys2Proof

open Sys2Proof.Machine

/-- The state with another word in the latch PEND (R46). -/
def withPend (p : Word) (s : State) : State := { s with pend := p }

@[simp] theorem withPend_busy (p : Word) (s : State) : (withPend p s).busy = s.busy := rfl
@[simp] theorem withPend_host (p : Word) (s : State) : (withPend p s).host = s.host := rfl

@[simp] theorem readReg_withPend (p : Word) (s : State) (r : Reg) : readReg (withPend p s) r = readReg s r := by
  cases r <;> rfl

/-- A bus read does not look at PEND. -/
theorem busRead_withPend (off : BitVec 12) (width : AccessWidth) (p : Word) (s : State) :
    busRead off width (withPend p s) = withPend p (busRead off width s) := by
  unfold busRead readBusy readIdle
  simp only [withPend_busy, readReg_withPend]
  split
  · split <;> split <;> rfl
  · rfl

/-- A write of a register does not look at PEND; a write of CMD replaces it. -/
theorem writeReg_withPend (r : Reg) (v p : Word) (s : State) :
    ∃ q, writeReg r v (withPend p s) = withPend q (writeReg r v s) := by
  cases r with
  | cmd => exact ⟨v, rfl⟩
  | _ => exact ⟨p, rfl⟩

theorem writeIdle_withPend (off : BitVec 12) (v p : Word) (s : State) :
    ∃ q, writeIdle off v (withPend p s) = withPend q (writeIdle off v s) := by
  unfold writeIdle
  cases regAt off with
  | none => exact ⟨p, rfl⟩
  | some r =>
    obtain ⟨q, hq⟩ := writeReg_withPend r v p s
    exact ⟨q, congrArg (respond .ack) hq⟩

/-- A bus write does not look at PEND. -/
theorem busWrite_withPend (off : BitVec 12) (width : AccessWidth) (v p : Word) (s : State) :
    ∃ q, busWrite off width v (withPend p s) = withPend q (busWrite off width v s) := by
  unfold busWrite
  rw [withPend_busy]
  cases served width off with
  | false => exact ⟨p, rfl⟩
  | true =>
    cases s.busy with
    | true => exact ⟨p, rfl⟩
    | false => exact writeIdle_withPend off v p s

/-- No turn of the host looks at PEND. -/
theorem hostTurn_withPend (p : Word) (s : State) : ∃ q, hostTurn (withPend p s) = withPend q (hostTurn s) := by
  have hp : (withPend p s).host = s.host := rfl
  match h : s.host with
  | [] => rw [hostTurn_nil h, hostTurn_nil (hp.trans h)]; exact ⟨p, rfl⟩
  | .read off w :: l =>
    rw [hostTurn_read h, hostTurn_read (hp.trans h)]
    exact ⟨p, busRead_withPend off w p (nextSlot l s)⟩
  | .write off w v :: l =>
    rw [hostTurn_write h, hostTurn_write (hp.trans h)]
    exact busWrite_withPend off w v p (nextSlot l s)
  | .wait :: l => rw [hostTurn_wait h, hostTurn_wait (hp.trans h)]; exact ⟨p, rfl⟩
  | .reset :: l => rw [hostTurn_reset h, hostTurn_reset (hp.trans h)]; exact ⟨Config.undefinedPend s.draws, rfl⟩
  | .idle :: l => rw [hostTurn_idle h, hostTurn_idle (hp.trans h)]; exact ⟨p, rfl⟩

/-- Settles O60: with BUSY = 0 the step is the host's turn, which does not look at PEND. -/
theorem pendIsUnobservableWhileIdle : Obligations.PendIsUnobservableWhileIdle := by
  intro s p hb
  obtain ⟨q, hq⟩ := hostTurn_withPend p s
  have hidle : (withPend p s).busy = false := hb
  refine ⟨hostTurn s, q, step_eq_hostTurn (completionDue_eq_false_of_idle hb), ?_⟩
  exact (step_eq_hostTurn (completionDue_eq_false_of_idle hidle)).trans (congrArg _ hq)

end Sys2Proof
end

section
/-!
PROOFS. The bus: which accesses are refused, what a served read and a served write do with BUSY = 0 and with
BUSY = 1, and repeated reads.
-/
namespace Sys2Proof

open Sys2Proof.Machine

/-! ### Served and refused accesses -/

/-- An access is served exactly when it is 32 bits wide and aligned (R84). -/
theorem served_iff (width : AccessWidth) (off : BitVec 12) :
    served width off = true ↔ width = .word ∧ off.toNat % 4 = 0 := by
  simp [served]

theorem busRead_refused {width : AccessWidth} {off : BitVec 12} (h : served width off = false) (s : State) :
    busRead off width s = respond .busError s := by
  simp [busRead, h]

theorem busWrite_refused {width : AccessWidth} {off : BitVec 12} (h : served width off = false) (v : Word)
    (s : State) : busWrite off width v s = respond .busError s := by
  simp [busWrite, h]

theorem busRead_served {width : AccessWidth} {off : BitVec 12} (h : served width off = true) (s : State) :
    busRead off width s = if s.busy then readBusy off s else readIdle off s := by
  simp [busRead, h]

theorem busWrite_served {width : AccessWidth} {off : BitVec 12} (h : served width off = true) (v : Word)
    (s : State) : busWrite off width v s = if s.busy then writeBusy s else writeIdle off v s := by
  simp [busWrite, h]

/-! ### What an access does at an offset -/

theorem readIdle_assigned {off : BitVec 12} {r : Reg} (h : regAt off = some r) (s : State) :
    readIdle off s = respond (.data (readReg s r)) s := by
  simp [readIdle, h]

theorem readIdle_unassigned {off : BitVec 12} (h : regAt off = none) (s : State) :
    readIdle off s = respond (.data 0) s := by
  simp [readIdle, h]

theorem readBusy_status {off : BitVec 12} (h : regAt off = some .status) (s : State) :
    readBusy off s = respond (.data (readReg s .status)) s := by
  simp [readBusy, h, readReg]

theorem readBusy_assigned {off : BitVec 12} {r : Reg} (h : regAt off = some r) (hr : r ≠ .status) (s : State) :
    readBusy off s = respond (.data (Config.busyReadValue s.draws)) (drawn s) := by
  unfold readBusy
  rw [h]
  cases r with
  | status => exact absurd rfl hr
  | _ => rfl

theorem readBusy_unassigned {off : BitVec 12} (h : regAt off = none) (s : State) :
    readBusy off s = respond (.data 0) s := by
  simp [readBusy, h]

theorem writeIdle_assigned {off : BitVec 12} {r : Reg} (h : regAt off = some r) (v : Word) (s : State) :
    writeIdle off v s = respond .ack (writeReg r v s) := by
  simp [writeIdle, h]

theorem writeIdle_unassigned {off : BitVec 12} (h : regAt off = none) (v : Word) (s : State) :
    writeIdle off v s = respond .ack s := by
  simp [writeIdle, h]

/-- GF_RES, INFO, FB, DOUT and KS are read-only: a write leaves the state as it is (R30, R85). -/
theorem writeReg_readOnly {r : Reg}
    (h : r = .gfRes ∨ r = .info ∨ (∃ k, r = .fb k) ∨ (∃ k, r = .dout k) ∨ ∃ i, r = .ks i) (v : Word) (s : State) :
    writeReg r v s = s := by
  obtain rfl | rfl | ⟨k, rfl⟩ | ⟨k, rfl⟩ | ⟨i, rfl⟩ := h <;> rfl

/-! ### What every access keeps -/

@[simp] theorem busRead_host (off : BitVec 12) (width : AccessWidth) (s : State) :
    (busRead off width s).host = s.host := by
  obtain ⟨a, h | h⟩ := busRead_cases off width s <;> simp [h]

@[simp] theorem busWrite_host (off : BitVec 12) (width : AccessWidth) (v : Word) (s : State) :
    (busWrite off width v s).host = s.host := by
  obtain ⟨a, h, -⟩ | ⟨-, -, h⟩ | ⟨-, -, r, -, h⟩ := busWrite_cases off width v s <;> simp [h, writeBusy]

@[simp] theorem busRead_pend (off : BitVec 12) (width : AccessWidth) (s : State) :
    (busRead off width s).pend = s.pend := by
  obtain ⟨a, h | h⟩ := busRead_cases off width s <;> simp [h]

/-- No register changes when it is read, busy or not (R87, R88). -/
@[simp] theorem readReg_busRead (off : BitVec 12) (width : AccessWidth) (s : State) (r : Reg) :
    readReg (busRead off width s) r = readReg s r := by
  obtain ⟨a, h | h⟩ := busRead_cases off width s <;> simp [h]

/-! ### The bus's answer -/

/-- A served read is answered with data. -/
theorem busRead_served_response {width : AccessWidth} {off : BitVec 12} (h : served width off = true) (s : State) :
    ∃ v, (busRead off width s).response = .data v := by
  rw [busRead_served h]
  unfold readBusy readIdle
  split <;> split <;> exact ⟨_, rfl⟩

/-- A served write is acknowledged, also where it is ignored or dropped (log entry 7). -/
theorem busWrite_served_response {width : AccessWidth} {off : BitVec 12} (h : served width off = true) (v : Word)
    (s : State) : (busWrite off width v s).response = .ack := by
  rw [busWrite_served h]
  unfold writeBusy writeIdle
  split
  · rfl
  · split <;> rfl

/-! ### The step that serves an access -/

theorem step_read {s : State} {off : BitVec 12} {width : AccessWidth} {rest : List HostEvent}
    (hdue : completionDue s = false) (hh : s.host = .read off width :: rest) :
    step s = .next (busRead off width (nextSlot rest s)) := by
  rw [step_eq_hostTurn hdue, hostTurn_read hh]

theorem step_write {s : State} {off : BitVec 12} {width : AccessWidth} {v : Word} {rest : List HostEvent}
    (hdue : completionDue s = false) (hh : s.host = .write off width v :: rest) :
    step s = .next (busWrite off width v (nextSlot rest s)) := by
  rw [step_eq_hostTurn hdue, hostTurn_write hh]

/-- A refused read or write is answered with a bus error and nothing else (R84; log entry 6). -/
theorem step_refused {s : State} {off : BitVec 12} {width : AccessWidth} {v : Word} {ev : HostEvent}
    {rest : List HostEvent} (hev : ev = .read off width ∨ ev = .write off width v) (hh : s.host = ev :: rest)
    (hdue : completionDue s = false) (hs : served width off = false) :
    step s = .next (respond .busError (nextSlot rest s)) := by
  obtain rfl | rfl := hev
  · rw [step_read hdue hh, busRead_refused hs]
  · rw [step_write hdue hh, busWrite_refused hs]

/-- A served read or write takes its event off the host's list and is not answered with a bus error. -/
theorem step_served {s : State} {off : BitVec 12} {width : AccessWidth} {v : Word} {ev : HostEvent}
    {rest : List HostEvent} (hev : ev = .read off width ∨ ev = .write off width v) (hh : s.host = ev :: rest)
    (hdue : completionDue s = false) (hs : served width off = true) :
    ∃ t, step s = .next t ∧ t.host = rest ∧ t.response ≠ .busError := by
  obtain rfl | rfl := hev
  · obtain ⟨x, hx⟩ := busRead_served_response hs (nextSlot rest s)
    exact ⟨_, step_read hdue hh, by simp, by simp [hx]⟩
  · exact ⟨_, step_write hdue hh, by simp, by simp [busWrite_served_response hs]⟩

/-- Settles O12, by whether the access is served. -/
theorem refusedAccessHasNoEffect : Obligations.RefusedAccessHasNoEffect := by
  intro s off width v ev rest hev hh hdue
  cases hs : served width off with
  | false =>
    refine ⟨_, step_refused hev hh hdue hs, rfl, fun _ => ⟨rfl, by simp, rfl, rfl, rfl⟩, fun hw ha => ?_⟩
    exact absurd ((served_iff width off).mpr ⟨hw, ha⟩) (by simp [hs])
  | true =>
    obtain ⟨hw, ha⟩ := (served_iff width off).mp hs
    obtain ⟨t, hstep, hhost, hne⟩ := step_served hev hh hdue hs
    exact ⟨t, hstep, hhost, fun hbad => absurd hbad (by simp [hw, ha]), fun _ _ => hne⟩

/-! ### Accesses with BUSY = 0 -/

theorem step_read_idle {s : State} {off : BitVec 12} {rest : List HostEvent} (hb : s.busy = false)
    (ha : off.toNat % 4 = 0) (hh : s.host = .read off .word :: rest) :
    step s = .next (readIdle off (nextSlot rest s)) := by
  rw [step_read (completionDue_eq_false_of_idle hb) hh, busRead_served ((served_iff _ off).mpr ⟨rfl, ha⟩)]
  simp [hb]

theorem step_write_idle {s : State} {off : BitVec 12} {v : Word} {rest : List HostEvent} (hb : s.busy = false)
    (ha : off.toNat % 4 = 0) (hh : s.host = .write off .word v :: rest) :
    step s = .next (writeIdle off v (nextSlot rest s)) := by
  rw [step_write (completionDue_eq_false_of_idle hb) hh, busWrite_served ((served_iff _ off).mpr ⟨rfl, ha⟩)]
  simp [hb]

/-- An unassigned offset and CMD read 0 while BUSY = 0 (R30, R85). -/
theorem readIdle_eq_zero {off : BitVec 12} (h : (∀ r, regOffset r ≠ off.toNat) ∨ off = 0x004) (s : State) :
    readIdle off s = respond (.data 0) s := by
  obtain hnone | rfl := h
  · exact readIdle_unassigned ((regAt_eq_none off).mpr hnone) s
  · exact readIdle_assigned (regAt_regOffset .cmd) s

/-- A write is ignored at an offset that holds no register, or only a read-only one (R85). -/
theorem writeIdle_ignored {off : BitVec 12}
    (h : ∀ r, regOffset r = off.toNat →
      r = .gfRes ∨ r = .info ∨ (∃ k, r = .fb k) ∨ (∃ k, r = .dout k) ∨ ∃ i, r = .ks i)
    (v : Word) (s : State) : writeIdle off v s = respond .ack s := by
  cases hr : regAt off with
  | none => exact writeIdle_unassigned hr v s
  | some r => rw [writeIdle_assigned hr, writeReg_readOnly (h r ((regAt_eq_some off r).mp hr))]

/-- Settles O13: such a read and such a write only answer the host. -/
theorem unassignedAndReadOnlyIgnoreWrites : Obligations.UnassignedAndReadOnlyIgnoreWrites := by
  intro s off v rest hb ha
  refine ⟨fun hh hoff => ⟨_, step_read_idle hb ha hh, ?_⟩, fun hh hro => ⟨_, step_write_idle hb ha hh, ?_⟩⟩
  · rw [readIdle_eq_zero hoff]
    exact ⟨rfl, by simp⟩
  · rw [writeIdle_ignored hro]
    exact ⟨rfl, hb, by simp⟩

/-! ### Accesses with BUSY = 1 -/

/-- A served read while BUSY = 1 (R87). -/
theorem busRead_of_busy {s : State} {off : BitVec 12} (hb : s.busy = true) (ha : off.toNat % 4 = 0) :
    busRead off .word s = readBusy off s := by
  simp [busRead_served ((served_iff _ off).mpr ⟨rfl, ha⟩), hb]

theorem step_write_busy {s : State} {off : BitVec 12} {v : Word} {rest : List HostEvent} (hb : s.busy = true)
    (hd : s.delay ≠ 0) (ha : off.toNat % 4 = 0) (hh : s.host = .write off .word v :: rest) :
    step s = .next (respond .ack (overrun (nextSlot rest s))) := by
  rw [step_write (completionDue_eq_false_of_delay hd) hh, busWrite_served ((served_iff _ off).mpr ⟨rfl, ha⟩)]
  simp [hb, writeBusy]

/-- Settles O14: a dropped write sets OVR and answers the host. -/
theorem writeWhileBusyIsDropped : Obligations.WriteWhileBusyIsDropped := by
  intro s off v rest hb hd ha hh
  refine ⟨_, step_write_busy hb hd ha hh, rfl, hb, rfl, rfl, fun r hr => ?_, rfl, rfl, rfl, rfl, rfl⟩
  have hne : r ≠ .status := by rintro rfl; cases hr
  rw [readReg_respond, readReg_overrun hne, readReg_nextSlot]

/-- Settles O15, by what R31 assigns the offset to. -/
theorem readWhileBusyIsUnspecified : Obligations.ReadWhileBusyIsUnspecified := by
  intro s off rest hb hd ha hh
  have hbusy : busRead off .word (nextSlot rest s) = readBusy off (nextSlot rest s) := busRead_of_busy hb ha
  refine ⟨_, step_read (completionDue_eq_false_of_delay hd) hh, by simp, by simp, by simp, fun hst => ?_,
    fun hnone => ?_, fun r hr hoff => ?_⟩ <;> rw [hbusy]
  · rw [readBusy_status ((regAt_eq_some off .status).mpr hst.symm)]
    simp
  · rw [readBusy_unassigned ((regAt_eq_none off).mpr hnone)]
    rfl
  · rw [readBusy_assigned ((regAt_eq_some off r).mpr hoff) hr]
    exact ⟨rfl, rfl⟩

/-! ### Repeated reads -/

/-- An `rd` of the host assembly with BUSY = 0 answers with its register and nothing else (R88, R118). -/
theorem step_asmRd {s : State} {r : Reg} {rest : List HostEvent} (hb : s.busy = false)
    (hh : s.host = asmRd r :: rest) : step s = .next (respond (.data (readReg s r)) (nextSlot rest s)) := by
  rw [step_read (completionDue_eq_false_of_idle hb) hh, busRead_idle (by simpa using hb), readReg_nextSlot]

/-- A run whose first step is known goes on from the next state. -/
theorem core_run_succ {s t : State} (h : step s = .next t) (k : Nat) :
    Host.Core.run core (k + 1) s = Host.Core.run core k t := by
  have hcore : core.step s = .next t := h
  simp only [Host.Core.run, hcore]

/-- Settles O16, by induction on the number of reads: the state after one read is as good as the one before it. -/
theorem readsHaveNoSideEffect : Obligations.ReadsHaveNoSideEffect := by
  intro s r n rest
  induction n generalizing s with
  | zero =>
    intro hb hh
    exact ⟨_, (core_run_succ (step_asmRd hb hh) 0).trans rfl, rfl, rfl, by simp, rfl, hb⟩
  | succ n ih =>
    intro hb hh
    have hstep := step_asmRd hb hh
    obtain ⟨t, hrun, hresp, hhost, hregs, hpend, hbusy⟩ :=
      ih (respond (.data (readReg s r)) (nextSlot (List.replicate (n + 1) (asmRd r) ++ rest) s)) hb rfl
    refine ⟨t, (core_run_succ hstep (n + 1)).trans hrun, ?_, hhost, ?_, hpend, hbusy⟩
    · simpa using hresp
    · simpa using hregs

end Sys2Proof
end

section
/-!
PROOFS. The command word: which row of the opcode map a word matches, that the encoder and the decoder agree, and
which words are illegal.
-/
namespace Sys2Proof

/-! ### The row a word matches -/

/-- A mask that covers OP keeps OP. -/
theorem opField_and_of_mask {mask : Word} (h : opField mask = 0x3F) (c : Word) : opField (c &&& mask) = opField c :=
  calc opField (c &&& mask) = opField c &&& opField mask := BitVec.extractLsb'_and
    _ = opField c &&& BitVec.allOnes 6 := congrArg _ h
    _ = opField c := BitVec.and_allOnes

/-- A word that matches a row has the OP value of the row: every mask of R115 covers OP. -/
theorem opField_pattern_of_match {c : Word} {row : OpcodeRow} (hrow : row ∈ opcodeMap)
    (hm : c &&& row.mask = row.pattern) : opField row.pattern = opField c := by
  have hmask : ∀ q ∈ opcodeMap, opField q.mask = 0x3F := by decide
  rw [← hm, opField_and_of_mask (hmask row hrow)]

/-- No two rows of R115 have one OP value. -/
theorem row_eq_of_opField {p q : OpcodeRow} (hp : p ∈ opcodeMap) (hq : q ∈ opcodeMap)
    (h : opField p.pattern = opField q.pattern) : p = q :=
  List.inj_on_of_nodup_map (f := fun row => opField row.pattern) (by decide) hp hq h

theorem matchingRow_eq_none {c : Word} :
    matchingRow c = none ↔ ∀ row ∈ opcodeMap, c &&& row.mask ≠ row.pattern := by
  simp [matchingRow]

/-- The first row that matches is the only one (R115). -/
theorem matchingRow_eq_some {c : Word} {row : OpcodeRow} :
    matchingRow c = some row ↔ row ∈ opcodeMap ∧ c &&& row.mask = row.pattern := by
  have found {q : OpcodeRow} (h : matchingRow c = some q) : q ∈ opcodeMap ∧ c &&& q.mask = q.pattern :=
    ⟨List.mem_of_find?_eq_some h, by simpa using List.find?_some h⟩
  refine ⟨found, fun ⟨hrow, hm⟩ => ?_⟩
  cases hf : matchingRow c with
  | none => exact absurd hm (matchingRow_eq_none.mp hf row hrow)
  | some q =>
    obtain ⟨hq, hqm⟩ := found hf
    have hop := (opField_pattern_of_match hq hqm).trans (opField_pattern_of_match hrow hm).symm
    rw [row_eq_of_opField hq hrow hop]

theorem decode_eq_command_iff {c : Word} {i : Instr} :
    decode c = .command i ↔ ∃ row ∈ opcodeMap, c &&& row.mask = row.pattern ∧ row.build c = i := by
  have hmatch : decode c = .command i ↔ ∃ row, matchingRow c = some row ∧ row.build c = i := by
    unfold decode
    cases matchingRow c <;> simp
  simp [hmatch, matchingRow_eq_some, and_assoc]

/-! ### Words laid out from their fields -/

theorem ofNat_rndField (c : Word) : BitVec.ofNat 4 (rndField c) = c.extractLsb' 8 4 := by
  rw [rndField, BitVec.ofNat_toNat, BitVec.setWidth_eq]

theorem ofNat_cntField (c : Word) : BitVec.ofNat 5 (cntField c) = c.extractLsb' 16 5 := by
  rw [cntField, BitVec.ofNat_toNat, BitVec.setWidth_eq]

/-- Two equations of words hold together when they do bit by bit. -/
theorem eq_iff_eq_of_bits {a b x y : Word}
    (h : ∀ i < 32, a.getLsbD i = b.getLsbD i ↔ x.getLsbD i = y.getLsbD i) : a = b ↔ x = y := by
  constructor <;> rintro rfl <;> apply BitVec.eq_of_getLsbD_eq <;> intro i hi
  · exact (h i hi).mp rfl
  · exact (h i hi).mpr rfl

/-- A word is the OP value outside RND exactly when it is laid out from RND and OP (R110). -/
theorem and_roundMask_eq_iff (c : Word) (op : BitVec 6) :
    c &&& 0xFFFFF0FF = commandWord 0 0 op ↔ commandWord 0 (c.extractLsb' 8 4) op = c :=
  eq_iff_eq_of_bits fun i hi => by
    simp only [commandWord, BitVec.getLsbD_append, BitVec.getLsbD_and]
    interval_cases i <;> simp <;> exact eq_comm

/-- A word is the OP value outside CNT exactly when it is laid out from CNT and OP (R110). -/
theorem and_countMask_eq_iff (c : Word) (op : BitVec 6) :
    c &&& 0xFFE0FFFF = commandWord 0 0 op ↔ commandWord (c.extractLsb' 16 5) 0 op = c :=
  eq_iff_eq_of_bits fun i hi => by
    simp only [commandWord, BitVec.getLsbD_append, BitVec.getLsbD_and]
    interval_cases i <;> simp <;> exact eq_comm

/-! ### The row of a command -/

/-- The row of R115 that a command stands in. -/
def Instr.row : Instr → OpcodeRow
  | .addRoundKey _ => roundRow 0x07 .addRoundKey
  | .encRound _ => roundRow 0x08 .encRound
  | .decRound _ => roundRow 0x09 .decRound
  | .finalize _ => countRow 0x1A .finalize
  | i => plainRow (encode i) i

theorem Instr.row_mem (i : Instr) : i.row ∈ opcodeMap := by
  have hfind : opcodeMap.find? (fun row => opField row.pattern == i.opcode) = some i.row := by cases i <;> rfl
  exact List.mem_of_find?_eq_some hfind

theorem exists_row_eq {row : OpcodeRow} (h : row ∈ opcodeMap) : ∃ i : Instr, i.row = row := by
  have hmap : opcodeMap =
      [.nop, .subBytes, .invSubBytes, .shiftRows, .invShiftRows, .mixColumns, .invMixColumns, .addRoundKey 0,
        .encRound 0, .decRound 0, .encryptBlock, .decryptBlock, .keyExpand, .gfMul, .sboxFwd, .sboxInv, .modeInit,
        .processBlock, .finalize 0, .zeroize].map Instr.row := rfl
  rw [hmap] at h
  obtain ⟨i, -, hi⟩ := List.mem_map.mp h
  exact ⟨i, hi⟩

/-! ### A command's word is read back -/

/-- The row reads the command back from its word. -/
def OpcodeRow.ReadsBack (row : OpcodeRow) (i : Instr) : Prop :=
  encode i &&& row.mask = row.pattern ∧ row.build (encode i) = i

theorem roundRow_readsBack {f : Nat → Instr} {op : BitVec 6} {n : Nat}
    (henc : encode (f n) = commandWord 0 (BitVec.ofNat 4 n) op) (hrnd : rndField (encode (f n)) = n) :
    (roundRow (commandWord 0 0 op) f).ReadsBack (f n) :=
  ⟨(and_roundMask_eq_iff _ op).mpr (by rw [← ofNat_rndField, hrnd, henc]), congrArg f hrnd⟩

theorem countRow_readsBack {f : Nat → Instr} {op : BitVec 6} {n : Nat}
    (henc : encode (f n) = commandWord (BitVec.ofNat 5 n) 0 op) (hcnt : cntField (encode (f n)) = n) :
    (countRow (commandWord 0 0 op) f).ReadsBack (f n) :=
  ⟨(and_countMask_eq_iff _ op).mpr (by rw [← ofNat_cntField, hcnt, henc]), congrArg f hcnt⟩

theorem Instr.row_readsBack {i : Instr} (h : i.wellFormed = true) : i.row.ReadsBack i := by
  cases i with
  | addRoundKey rnd =>
    obtain ⟨-, hrnd, -, -⟩ := Laws.EncodedFields.addRoundKey rnd h
    exact roundRow_readsBack (op := 0x07) rfl hrnd
  | encRound rnd =>
    obtain ⟨-, hrnd, -, -⟩ := Laws.EncodedFields.encRound rnd h
    exact roundRow_readsBack (op := 0x08) rfl hrnd
  | decRound rnd =>
    obtain ⟨-, hrnd, -, -⟩ := Laws.EncodedFields.decRound rnd h
    exact roundRow_readsBack (op := 0x09) rfl hrnd
  | finalize cnt =>
    obtain ⟨-, -, hcnt, -⟩ := Laws.EncodedFields.finalize cnt h
    exact countRow_readsBack (op := 0x1A) rfl hcnt
  | _ => exact ⟨BitVec.and_allOnes, rfl⟩

/-- Settles O1: the command's word matches the command's row, which is the only row it matches. -/
theorem decodeOfEncodeIsTheCommand : Obligations.DecodeOfEncodeIsTheCommand :=
  fun i hi => decode_eq_command_iff.mpr ⟨i.row, i.row_mem, Instr.row_readsBack hi⟩

/-! ### A decoded word is the command's word -/

/-- Every word that matches the row is the word of the well-formed command the row reads from it. -/
def OpcodeRow.Faithful (row : OpcodeRow) : Prop :=
  ∀ c : Word, c &&& row.mask = row.pattern → (row.build c).wellFormed = true ∧ encode (row.build c) = c

theorem plainRow_faithful {i : Instr} (hw : i.wellFormed = true) : (plainRow (encode i) i).Faithful := by
  intro c hc
  have heq : c = encode i := BitVec.and_allOnes.symm.trans hc
  exact ⟨hw, heq.symm⟩

theorem roundRow_faithful {f : Nat → Instr} {op : BitVec 6} (hround : ∀ n, (f n).roundFits = decide (n < 16))
    (hcount : ∀ n, (f n).countFits = true) (henc : ∀ n, encode (f n) = commandWord 0 (BitVec.ofNat 4 n) op) :
    (roundRow (commandWord 0 0 op) f).Faithful := by
  intro c hc
  have hfits : rndField c < 16 := (c.extractLsb' 8 4).isLt
  have hwf : (f (rndField c)).wellFormed = true := by simp [Instr.wellFormed, hround, hcount, hfits]
  have hword : encode (f (rndField c)) = c := by rw [henc, ofNat_rndField, (and_roundMask_eq_iff c op).mp hc]
  exact ⟨hwf, hword⟩

theorem countRow_faithful {f : Nat → Instr} {op : BitVec 6} (hround : ∀ n, (f n).roundFits = true)
    (hcount : ∀ n, (f n).countFits = decide (n < 32))
    (henc : ∀ n, encode (f n) = commandWord (BitVec.ofNat 5 n) 0 op) :
    (countRow (commandWord 0 0 op) f).Faithful := by
  intro c hc
  have hfits : cntField c < 32 := (c.extractLsb' 16 5).isLt
  have hwf : (f (cntField c)).wellFormed = true := by simp [Instr.wellFormed, hround, hcount, hfits]
  have hword : encode (f (cntField c)) = c := by rw [henc, ofNat_cntField, (and_countMask_eq_iff c op).mp hc]
  exact ⟨hwf, hword⟩

theorem Instr.row_faithful (i : Instr) : i.row.Faithful := by
  cases i with
  | addRoundKey => exact roundRow_faithful (op := 0x07) (fun _ => rfl) (fun _ => rfl) fun _ => rfl
  | encRound => exact roundRow_faithful (op := 0x08) (fun _ => rfl) (fun _ => rfl) fun _ => rfl
  | decRound => exact roundRow_faithful (op := 0x09) (fun _ => rfl) (fun _ => rfl) fun _ => rfl
  | finalize => exact countRow_faithful (op := 0x1A) (fun _ => rfl) (fun _ => rfl) fun _ => rfl
  | _ => exact plainRow_faithful rfl

/-- Settles O2: a word that decodes matches the row of some command, and each such row is faithful. -/
theorem decodedWordIsTheOnlySpelling : Obligations.DecodedWordIsTheOnlySpelling := by
  intro c i hdec
  obtain ⟨row, hrow, hm, rfl⟩ := decode_eq_command_iff.mp hdec
  obtain ⟨j, rfl⟩ := exists_row_eq hrow
  exact j.row_faithful c hm

/-! ### Illegal words -/

theorem opcodeDefined_iff (op : BitVec 6) :
    opcodeDefined op = true ↔ ∃ row ∈ opcodeMap, opField row.pattern = op := by
  simp [opcodeDefined]

/-- A word is a reserved opcode exactly when no row has its OP value: a word that matches a row has the row's. -/
theorem decode_eq_reservedOpcode_iff {c : Word} :
    decode c = .illegal .reservedOpcode ↔ ¬ opcodeDefined (opField c) = true := by
  unfold decode
  cases hf : matchingRow c with
  | none => simp
  | some row =>
    obtain ⟨hrow, hm⟩ := matchingRow_eq_some.mp hf
    have hdef := (opcodeDefined_iff _).mpr ⟨row, hrow, opField_pattern_of_match hrow hm⟩
    simp [hdef]

theorem decode_eq_strayBits_iff {c : Word} :
    decode c = .illegal .strayBits ↔ opcodeDefined (opField c) = true ∧ matchingRow c = none := by
  unfold decode
  cases matchingRow c <;> simp

/-- The OP values that stand in no row of R115 (R116). -/
theorem opcodeDefined_iff_not_reserved (op : BitVec 6) :
    opcodeDefined op = true ↔ ¬ ((0x0C ≤ op.toNat ∧ op.toNat ≤ 0x0F) ∨ (0x14 ≤ op.toNat ∧ op.toNat ≤ 0x17) ∨
      (0x1B ≤ op.toNat ∧ op.toNat ≤ 0x1E) ∨ 0x20 ≤ op.toNat) := by
  revert op
  decide

/-- The bits of the fields that a command with this OP value uses (R112). -/
def usedBits (op : Nat) : Word :=
  if 0x07 ≤ op ∧ op ≤ 0x09 then 0x00000F3F else if op = 0x1A then 0x001F003F else 0x0000003F

/-- Each mask of R115 is OP and all the bits the command does not use. -/
theorem row_mask_pattern : ∀ row ∈ opcodeMap,
    row.mask = ~~~usedBits (opField row.pattern).toNat ||| 0x3F ∧
      row.pattern = (opField row.pattern).setWidth 32 := by
  decide

theorem usedBits_covers_op (op : Nat) : usedBits op &&& 0x3F = 0x3F := by
  unfold usedBits
  split
  · rfl
  · split <;> rfl

/-- OP as bits [5:0] of a word. -/
theorem and_opMask (c : Word) : c &&& 0x3F = (opField c).setWidth 32 := by
  apply BitVec.eq_of_getLsbD_eq
  intro i hi
  simp only [opField, BitVec.getLsbD_and, BitVec.getLsbD_setWidth, BitVec.getLsbD_extractLsb']
  interval_cases i <;> simp

/-- A mask of some used bits and all unused ones shows those used bits alone exactly when the unused ones are 0. -/
theorem and_mask_eq_iff_unused_zero {used kept : Word} (hkept : used &&& kept = kept) (c : Word) :
    c &&& (~~~used ||| kept) = c &&& kept ↔ c &&& ~~~used = 0 :=
  eq_iff_eq_of_bits fun i hi => by
    have hbit := congrArg (fun w => w.getLsbD i) hkept
    simp only [BitVec.getLsbD_and, BitVec.getLsbD_or, BitVec.getLsbD_not, hi, decide_true, Bool.true_and] at hbit ⊢
    revert hbit
    cases c.getLsbD i <;> cases used.getLsbD i <;> simp

/-- A word with the OP value of a row matches it exactly when it has no stray bit (R112). -/
theorem match_iff_no_stray_bits {c : Word} {row : OpcodeRow} (hrow : row ∈ opcodeMap)
    (hop : opField row.pattern = opField c) :
    c &&& row.mask = row.pattern ↔ c &&& ~~~usedBits (opField c).toNat = 0 := by
  obtain ⟨hmask, hpattern⟩ := row_mask_pattern row hrow
  rw [hop] at hmask hpattern
  rw [hmask, hpattern, ← and_opMask]
  exact and_mask_eq_iff_unused_zero (usedBits_covers_op _) c

theorem matchingRow_eq_none_iff_stray_bits {c : Word} (hdef : opcodeDefined (opField c) = true) :
    matchingRow c = none ↔ c &&& ~~~usedBits (opField c).toNat ≠ 0 := by
  obtain ⟨row, hrow, hop⟩ := (opcodeDefined_iff _).mp hdef
  rw [matchingRow_eq_none, Ne, ← match_iff_no_stray_bits hrow hop]
  refine ⟨fun h => h row hrow, fun h q hq hqm => h ?_⟩
  rwa [row_eq_of_opField hrow hq (hop.trans (opField_pattern_of_match hq hqm).symm)]

/-- Settles O4, by whether some row has the word's OP value, and then whether the word has a stray bit. -/
theorem illegalWordsAreTheReservedOnes : Obligations.IllegalWordsAreTheReservedOnes := by
  intro c op reserved fields
  have hdef : opcodeDefined (opField c) = true ↔ ¬ reserved := opcodeDefined_iff_not_reserved (opField c)
  refine ⟨?_, ?_⟩
  · rw [decode_eq_reservedOpcode_iff, hdef, not_not]
  · rw [decode_eq_strayBits_iff, ← hdef]
    exact and_congr_right fun h => matchingRow_eq_none_iff_stray_bits h

/-! ### Words written out -/

/-- Settles O3: the decoder reads each word, by evaluation. -/
theorem specWordsDecodeToTheirCommands : Obligations.SpecWordsDecodeToTheirCommands := by
  unfold Obligations.SpecWordsDecodeToTheirCommands
  decide

end Sys2Proof
end

section
/-!
PROOFS. The completion of an illegal word, and the end of a `wait`.
-/
namespace Sys2Proof

open Sys2Proof.Machine

/-- STATUS: the error code stands at [11:8] (R33, R300). -/
theorem statusWord_err (s : State) : (statusWord s).extractLsb' 8 4 = errCode s.err := by
  refine extractLsb'_eq_of_bits fun i hi => ?_
  simp only [statusWord, BitVec.getLsbD_append]
  interval_cases i <;> simp

theorem step_of_illegal {s : State} {why : IllegalReason} (hdue : completionDue s = true)
    (hdec : decode s.pend = .illegal why) : step s = .next (complete .illegalCommand s) := by
  obtain ⟨-, i, hi, -⟩ | ⟨-, -, -, hstep⟩ | ⟨hnot, -⟩ := step_cases s
  · exact absurd (hi.symm.trans hdec) (by simp)
  · exact hstep
  · exact absurd (hdue.symm.trans hnot) (by simp)

/-- Settles O5: an illegal word completes with its code, and a completion alone writes only STATUS. -/
theorem illegalWordCompletesWithoutEffect : Obligations.IllegalWordCompletesWithoutEffect := by
  intro s why hdue hdec
  refine ⟨_, step_of_illegal hdue hdec, ⟨rfl, rfl, rfl⟩, statusWord_err _, fun r hr => ?_,
    ⟨rfl, rfl, rfl, rfl⟩, rfl, rfl, rfl⟩
  exact readReg_complete (by rintro rfl; cases hr) _ s

/-- Settles O20: the turn answers with STATUS, whose bit 0 is the BUSY that decides whether the `wait` stays. -/
theorem waitEndsWhenBusyReadsZero : Obligations.WaitEndsWhenBusyReadsZero := by
  intro s rest hh hdue
  have hbit : (readReg s .status).getLsbD 0 = s.busy := statusWord_busy s
  refine ⟨_, (step_eq_hostTurn hdue).trans (congrArg _ (hostTurn_wait hh)), rfl, by simp, fun hb => ?_, fun hb => ?_⟩
  · simp [hbit.symm.trans hb, hh]
  · simp [hbit.symm.trans hb]

end Sys2Proof
end

section
/-!
PROOFS. The field of R141: the product is linear in its first operand, every byte is built from 1 by doubling and
exclusive or, and so the laws of the product follow from those of its first operand; the S-box gives the inverses.
-/
namespace Sys2Proof

open Sys2Proof.Machine

/-! ### Doubling -/

theorem xtime_xor (a b : Byte) : xtime (a ^^^ b) = xtime a ^^^ xtime b := by
  have reduction : ∀ p q : Bool, (if p ^^ q then 0x1B else 0x00 : Byte) =
      (if p then 0x1B else 0x00) ^^^ (if q then 0x1B else 0x00) := by decide
  rw [xtime, xtime, xtime, BitVec.shiftLeft_xor_distrib, BitVec.getLsbD_xor, reduction]
  ac_rfl

/-! ### The product and its first operand -/

/-- The loop adds the doubled operand at the set bits of the other, above the running product (R141). -/
theorem gfMulLoop_eq_foldl (n : Nat) (p a b : Byte) :
    gfMulLoop n p a b = (List.range n).foldl (fun p i => if b.getLsbD i then p ^^^ xtime^[i] a else p) p := by
  induction n generalizing p a b with
  | zero => rfl
  | succ n ih => simp [gfMulLoop, ih, List.range_succ_eq_map, List.foldl_map, Nat.add_comm 1]

theorem gfMulLoop_xor (n : Nat) (p q a c b : Byte) :
    gfMulLoop n (p ^^^ q) (a ^^^ c) b = gfMulLoop n p a b ^^^ gfMulLoop n q c b := by
  induction n generalizing p q a c b with
  | zero => rfl
  | succ n ih =>
    simp only [gfMulLoop, xtime_xor, ← ih]
    split
    · congr 1
      ac_rfl
    · rfl

theorem gfMulLoop_xtime (n : Nat) (p a b : Byte) : gfMulLoop n (xtime p) (xtime a) b = xtime (gfMulLoop n p a b) := by
  induction n generalizing p a b with
  | zero => rfl
  | succ n ih =>
    simp only [gfMulLoop, ← ih]
    split
    · rw [xtime_xor]
    · rfl

theorem gfMul_xor_left (a b c : Byte) : gfMul (a ^^^ b) c = gfMul a c ^^^ gfMul b c := gfMulLoop_xor 8 0 0 a b c

theorem gfMul_xtime_left (a b : Byte) : gfMul (xtime a) b = xtime (gfMul a b) := gfMulLoop_xtime 8 0 a b

/-- The product by 1 adds up the bits of the other operand. -/
@[simp] theorem gfMul_one_left : ∀ b : Byte, gfMul 1#8 b = b := by decide +kernel

@[simp] theorem gfMul_zero_left (b : Byte) : gfMul 0#8 b = 0#8 := by
  simpa using gfMul_xor_left 1#8 1#8 b

/-! ### The laws of the product -/

/-- What holds of 1 and is kept by doubling and exclusive or holds of every byte. -/
theorem byte_induction {P : Byte → Prop} (one : P 1) (double : ∀ a, P a → P (xtime a))
    (add : ∀ a b, P a → P b → P (a ^^^ b)) (a : Byte) : P a := by
  have loop (n : Nat) (p a b : Byte) (hp : P p) (ha : P a) : P (gfMulLoop n p a b) := by
    induction n generalizing p a b with
    | zero => exact hp
    | succ n ih =>
      refine ih _ _ _ ?_ (double a ha)
      split
      · exact add p a hp ha
      · exact hp
  have zero : P 0 := add 1 1 one one
  exact gfMul_one_left a ▸ loop 8 0 1 a zero one

@[simp] theorem gfMul_one_right (a : Byte) : gfMul a 1#8 = a := by
  induction a using byte_induction with
  | one => rfl
  | double a ih => rw [gfMul_xtime_left, ih]
  | add a b iha ihb => rw [gfMul_xor_left, iha, ihb]

theorem gfMul_xtime_right (a b : Byte) : gfMul a (xtime b) = xtime (gfMul a b) := by
  induction a using byte_induction with
  | one => simp
  | double a ih => rw [gfMul_xtime_left, ih, gfMul_xtime_left]
  | add a c iha ihc => rw [gfMul_xor_left, iha, ihc, ← xtime_xor, ← gfMul_xor_left]

theorem gfMul_xor_right (a b c : Byte) : gfMul a (b ^^^ c) = gfMul a b ^^^ gfMul a c := by
  induction a using byte_induction with
  | one => simp
  | double a ih => simp only [gfMul_xtime_left, ih, xtime_xor]
  | add a d iha ihd =>
    simp only [gfMul_xor_left, iha, ihd]
    ac_rfl

theorem gfMul_comm (a b : Byte) : gfMul a b = gfMul b a := by
  induction a using byte_induction with
  | one => simp
  | double a ih => rw [gfMul_xtime_left, ih, gfMul_xtime_right]
  | add a c iha ihc => rw [gfMul_xor_left, iha, ihc, gfMul_xor_right]

theorem gfMul_assoc (a b c : Byte) : gfMul (gfMul a b) c = gfMul a (gfMul b c) := by
  induction a using byte_induction with
  | one => simp
  | double a ih => simp only [gfMul_xtime_left, ih]
  | add a d iha ihd => simp only [gfMul_xor_left, iha, ihd]

@[simp] theorem gfMul_zero_right (a : Byte) : gfMul a 0#8 = 0#8 := by rw [gfMul_comm, gfMul_zero_left]

theorem gfMul_two_right (a : Byte) : gfMul a 0x02 = xtime a := by
  have htwo : (0x02 : Byte) = xtime 1#8 := rfl
  rw [htwo, gfMul_xtime_right, gfMul_one_right]

/-! ### Inverses and the S-box -/

/-- A byte has at most one inverse: `b = (c a) b = c (a b) = c`. -/
theorem gfMul_inverse_unique {a b c : Byte} (hb : gfMul a b = 1#8) (hc : gfMul a c = 1#8) : b = c :=
  calc b = gfMul (gfMul c a) b := by rw [gfMul_comm c a, hc, gfMul_one_left]
    _ = c := by rw [gfMul_assoc, hb, gfMul_one_right]

/-- The affine map of R144. -/
def sboxAffine (b : Byte) : Byte :=
  b ^^^ b.rotateLeft 1 ^^^ b.rotateLeft 2 ^^^ b.rotateLeft 3 ^^^ b.rotateLeft 4 ^^^ 0x63

/-- The affine map that undoes the one of R144. -/
def sboxAffineInv (b : Byte) : Byte := b.rotateLeft 1 ^^^ b.rotateLeft 3 ^^^ b.rotateLeft 6 ^^^ 0x05

theorem sboxAffine_sboxAffineInv : ∀ b : Byte, sboxAffine (sboxAffineInv b) = b := by decide +kernel

/-- Undoing the affine map of a table entry gives the inverse of its index (R144). -/
theorem gfMul_sboxAffineInv_sbox : ∀ a : Byte, a ≠ 0 → gfMul a (sboxAffineInv (sbox a)) = 1 := by decide +kernel

theorem existsUnique_gfMul_eq_one {a : Byte} (ha : a ≠ 0) : ∃! b, gfMul a b = 1 :=
  ⟨_, gfMul_sboxAffineInv_sbox a ha, fun _ hb => gfMul_inverse_unique hb (gfMul_sboxAffineInv_sbox a ha)⟩

/-- The entry of an index with an inverse is the affine image of the inverse (R144). -/
theorem sbox_eq_sboxAffine {x y : Byte} (h : gfMul x y = 1) : sbox x = sboxAffine y := by
  have hx : x ≠ 0 := by
    rintro rfl
    simp at h
  rw [gfMul_inverse_unique h (gfMul_sboxAffineInv_sbox x hx), sboxAffine_sboxAffineInv]

theorem invSbox_sbox : ∀ x : Byte, invSbox (sbox x) = x := by decide +kernel

theorem sbox_invSbox : ∀ y : Byte, sbox (invSbox y) = y := by decide +kernel

/-- Settles O31, by the laws of the product and the inverses the S-box gives. -/
theorem gfMulIsFieldMultiplication : Obligations.GfMulIsFieldMultiplication :=
  ⟨gfMulLoop_eq_foldl 8 0, gfMul_comm, fun a => ⟨gfMul_zero_right a, gfMul_one_right a, gfMul_two_right a⟩,
    gfMul_xor_right, fun _ => existsUnique_gfMul_eq_one⟩

/-- Settles O32, by the uniqueness of inverses, and the two tables compared entry by entry. -/
theorem sboxTablesAreTheStandardOnes : Obligations.SboxTablesAreTheStandardOnes :=
  ⟨rfl, fun _ _ => sbox_eq_sboxAffine, invSbox_sbox, sbox_invSbox⟩

end Sys2Proof
end

section
/-!
PROOFS. The commands GF_MUL, SBOX_FWD and SBOX_INV: each writes GF_RES from GF_OPS and completes.
-/
namespace Sys2Proof

open Sys2Proof.Machine

/-- A well-formed command's own word is its spelling, in both directions. -/
theorem spells_of_encode_eq {c : Word} {i : Instr} (hw : i.wellFormed = true) (hc : encode i = c) : Spells c i :=
  ⟨hc, hc ▸ decodeOfEncodeIsTheCommand i hw⟩

/-- Only GF_RES shows a write of GF_RES (R37). -/
theorem readReg_putGfRes {r : Reg} (h : r ≠ .gfRes) (v : Byte) (s : State) : readReg (putGfRes v s) r = readReg s r := by
  cases r with
  | gfRes => exact absurd rfl h
  | _ => rfl

theorem putGfRes_keepsRegs (c : ErrCode) (v : Byte) (s : State) :
    KeepsRegs gfResAndStatus s (complete c (putGfRes v s)) := by
  intro r hr
  have hstatus : r ≠ .status := by rintro rfl; cases hr
  have hres : r ≠ .gfRes := by rintro rfl; cases hr
  rw [readReg_complete hstatus, readReg_putGfRes hres]

/-- A command that ends in a write of GF_RES shows the value there, and beyond its completion nothing else. -/
theorem exec_putGfRes {i : Instr} {s : State} {v : Byte} (h : exec i s = finish (putGfRes v s)) :
    ∃ t, exec i s = .next t ∧ Completed .none t ∧ readReg t .gfRes = v.zeroExtend 32 ∧
      KeepsRegs gfResAndStatus s t ∧ KeepsFlags s t ∧ KeepsHostSide s t :=
  ⟨_, h, ⟨rfl, rfl, rfl⟩, rfl, putGfRes_keepsRegs _ v s, ⟨rfl, rfl, rfl, rfl⟩, rfl, rfl, rfl⟩

/-- Settles O28: GF_MUL multiplies the two fields of GF_OPS. -/
theorem gfMulWritesTheProduct : Obligations.GfMulWritesTheProduct := by
  refine ⟨spells_of_encode_eq rfl rfl, fun s => ?_, fun a => ⟨gfMul_zero_right a, gfMul_zero_left a⟩, rfl, rfl, rfl⟩
  obtain ⟨ha, hb⟩ := gfOpsWord_fields s
  rw [ha, hb]
  exact exec_putGfRes rfl

/-- Settles O29: SBOX_FWD looks up the low field of GF_OPS. -/
theorem sboxFwdLooksUpTheForwardTable : Obligations.SboxFwdLooksUpTheForwardTable := by
  refine ⟨spells_of_encode_eq rfl rfl, fun s => ?_, rfl, rfl, rfl⟩
  obtain ⟨ha, -⟩ := gfOpsWord_fields s
  rw [ha]
  exact exec_putGfRes rfl

/-- Settles O30: SBOX_INV looks up the low field of GF_OPS. -/
theorem sboxInvLooksUpTheInverseTable : Obligations.SboxInvLooksUpTheInverseTable := by
  refine ⟨spells_of_encode_eq rfl rfl, fun s => ?_, rfl, rfl, rfl, rfl⟩
  obtain ⟨ha, -⟩ := gfOpsWord_fields s
  rw [ha]
  exact exec_putGfRes rfl

end Sys2Proof
end

section
/-!
PROOFS. The commands of the round engine as they end: a write of STATE and nothing else beyond the completion, or an
error without effect; and the words of those with a round index.
-/
namespace Sys2Proof

open Sys2Proof.Machine

/-! ### A write of STATE -/

/-- Only the words of STATE show a write of STATE (R42). -/
theorem readReg_putState {r : Reg} (h : ∀ k, r ≠ .state k) (b : Block) (s : State) :
    readReg (putState b s) r = readReg s r := by
  cases r with
  | state k => exact absurd rfl (h k)
  | _ => rfl

theorem putState_keepsRegs (b : Block) (s : State) : KeepsRegs stateAndStatus s (complete .none (putState b s)) := by
  intro r hr
  have hstatus : r ≠ .status := by rintro rfl; cases hr
  have hstate : ∀ k, r ≠ .state k := by rintro k rfl; cases hr
  rw [readReg_complete hstatus, readReg_putState hstate]

/-- What a command that ends in a write of STATE leaves as it was (R50). -/
theorem putState_frame (b : Block) (s : State) :
    KeepsRegs stateAndStatus s (complete .none (putState b s)) ∧ KeepsFlags s (complete .none (putState b s)) ∧
      KeepsHostSide s (complete .none (putState b s)) :=
  ⟨putState_keepsRegs b s, ⟨rfl, rfl, rfl, rfl⟩, rfl, rfl, rfl⟩

/-! ### The checks of the keyed commands -/

/-- A command that raises an error has no effect but its completion (R301). -/
theorem failsWith_of_raiseError {code : ErrCode} {i : Instr} {s : State} (h : exec i s = raiseError code s) :
    FailsWith code i s := by
  refine ⟨_, h, ⟨rfl, rfl, rfl⟩, fun r hr => ?_, ⟨rfl, rfl, rfl, rfl⟩, rfl, rfl, rfl⟩
  exact readReg_complete (by rintro rfl; cases hr) _ s

theorem scheduleCheck_of_valid {s : State} (h : s.ksValid = true) : scheduleCheck s = .none := if_pos h

/-- A missing schedule is reported before any later check (R302). -/
theorem runChecked_without_schedule {s : State} (h : s.ksValid = false) (rest : List ErrCode) (effect : State) :
    runChecked (scheduleCheck s :: rest) effect s = raiseError .uninitialized s := by
  simp [runChecked, scheduleCheck, h]

theorem runChecked_with_schedule {s : State} (h : s.ksValid = true) (effect : State) :
    runChecked [scheduleCheck s] effect s = finish effect := by
  simp [runChecked, scheduleCheck_of_valid h]

/-- With a schedule and `rnd <= NR` a command with a round index writes STATE (R176). -/
theorem runRound_of_le {s : State} {rnd : Nat} (h : s.ksValid = true) (hrnd : rnd ≤ s.nr.toNat) (b : Block) :
    runRound rnd b s = finish (putState b s) := by
  simp [runRound, runChecked, scheduleCheck_of_valid h, roundCheck, roundCount, hrnd]

/-- With a schedule and `rnd > NR` it raises INVALID_ROUND (R176). -/
theorem runRound_of_lt {s : State} {rnd : Nat} (h : s.ksValid = true) (hrnd : s.nr.toNat < rnd) (b : Block) :
    runRound rnd b s = raiseError .invalidRound s := by
  simp [runRound, runChecked, scheduleCheck_of_valid h, roundCheck, roundCount, Nat.not_le.mpr hrnd]

/-! ### The words of the commands with a round index -/

/-- The word of a command with a round index is `OP | (n << 8)` (R119). -/
theorem commandWord_round {rnd : Nat} (h : rnd < 16) (op : BitVec 6) :
    commandWord 0 (BitVec.ofNat 4 rnd) op = op.setWidth 32 ||| BitVec.ofNat 32 rnd <<< 8 := by
  revert op
  interval_cases rnd <;> decide

/-- A command whose only operand is a round index is spelt by that word. -/
theorem spells_round {f : Nat → Instr} {op : BitVec 6} (hround : ∀ n, (f n).roundFits = decide (n < 16))
    (hcount : ∀ n, (f n).countFits = true) (henc : ∀ n, encode (f n) = commandWord 0 (BitVec.ofNat 4 n) op) :
    ∀ rnd < 16, Spells (op.setWidth 32 ||| BitVec.ofNat 32 rnd <<< 8) (f rnd) := fun rnd h =>
  spells_of_encode_eq (by simp [Instr.wellFormed, hround, hcount, h]) ((henc rnd).trans (commandWord_round h op))

end Sys2Proof
end

section
/-!
PROOFS. SUB_BYTES, SHIFT_ROWS and their inverses: what each does to the byte at row r and column c, and that each
undoes the other.
-/
namespace Sys2Proof

open Sys2Proof.Machine

/-! ### Bytes substituted -/

@[simp] theorem blockAt_subBytes (b : Block) (r c : Fin 4) : blockAt (subBytes b) r c = sbox (blockAt b r c) :=
  blockAt_blockOfRC _ r c

@[simp] theorem blockAt_invSubBytes (b : Block) (r c : Fin 4) :
    blockAt (invSubBytes b) r c = invSbox (blockAt b r c) :=
  blockAt_blockOfRC _ r c

@[simp] theorem invSubBytes_subBytes (b : Block) : invSubBytes (subBytes b) = b :=
  block_ext fun r c => by simp [invSbox_sbox]

/-- Settles O33, by the byte at each row and column. -/
theorem subBytesSubstitutesEachByte : Obligations.SubBytesSubstitutesEachByte :=
  ⟨spells_of_encode_eq rfl rfl,
    fun s => ⟨_, rfl, ⟨rfl, rfl, rfl⟩, blockAt_subBytes s.stateReg, putState_frame _ s⟩, rfl, rfl⟩

/-- Settles O34, by the byte at each row and column and the tables' inverse law. -/
theorem invSubBytesUndoesSubBytes : Obligations.InvSubBytesUndoesSubBytes :=
  ⟨spells_of_encode_eq rfl rfl,
    fun s => ⟨_, rfl, ⟨rfl, rfl, rfl⟩, blockAt_invSubBytes s.stateReg, putState_frame _ s⟩, rfl, invSubBytes_subBytes,
    rfl⟩

/-! ### Rows rotated -/

@[simp] theorem blockAt_shiftRows (b : Block) (r c : Fin 4) : blockAt (shiftRows b) r c = blockAt b r (c + r) :=
  blockAt_blockOfRC _ r c

@[simp] theorem blockAt_invShiftRows (b : Block) (r c : Fin 4) : blockAt (invShiftRows b) r c = blockAt b r (c - r) :=
  blockAt_blockOfRC _ r c

/-- The byte that comes to row r and column c, by its index (R172). -/
theorem blockAt_shiftRows_eq_blockByte (b : Block) (r c : Fin 4) :
    blockAt (shiftRows b) r c = blockByte b (r.val + 4 * ((c.val + r.val) % 4)) := by
  rw [blockAt_shiftRows, ← blockByte_eq_blockAt, Fin.val_add]

/-- The byte that comes to row r and column c, by its index (R173). -/
theorem blockAt_invShiftRows_eq_blockByte (b : Block) (r c : Fin 4) :
    blockAt (invShiftRows b) r c = blockByte b (r.val + 4 * ((c.val + 4 - r.val) % 4)) := by
  have hcol : (c - r).val = (c.val + 4 - r.val) % 4 := by rw [Fin.val_sub]; omega
  rw [blockAt_invShiftRows, ← blockByte_eq_blockAt, hcol]

@[simp] theorem invShiftRows_shiftRows (b : Block) : invShiftRows (shiftRows b) = b :=
  block_ext fun r c => by simp

@[simp] theorem shiftRows_invShiftRows (b : Block) : shiftRows (invShiftRows b) = b :=
  block_ext fun r c => by simp

theorem blockAt_equal_columns (w : Col) (r c : Fin 4) : blockAt ⟨w, w, w, w⟩ r c = colByte w r := by
  match c with
  | 0 | 1 | 2 | 3 => rfl

theorem shiftRows_equal_columns (w : Col) : shiftRows ⟨w, w, w, w⟩ = ⟨w, w, w, w⟩ :=
  block_ext fun r c => by rw [blockAt_shiftRows, blockAt_equal_columns, blockAt_equal_columns]

/-- Four rotations by r are one by 4r, which is none. -/
theorem shiftRows_four_times (b : Block) : shiftRows^[4] b = b := by
  have hcol : ∀ r c : Fin 4, c + r + r + r + r = c := by decide
  exact block_ext fun r c => by simp [hcol]

/-- Settles O35, by the byte at each row and column. -/
theorem shiftRowsRotatesRowsLeft : Obligations.ShiftRowsRotatesRowsLeft :=
  ⟨spells_of_encode_eq rfl rfl,
    fun s => ⟨_, rfl, ⟨rfl, rfl, rfl⟩, blockAt_shiftRows_eq_blockByte s.stateReg, putState_frame _ s⟩,
    shiftRows_equal_columns, shiftRows_four_times, rfl⟩

/-- Settles O36, by the byte at each row and column. -/
theorem invShiftRowsUndoesShiftRows : Obligations.InvShiftRowsUndoesShiftRows :=
  ⟨spells_of_encode_eq rfl rfl,
    fun s => ⟨_, rfl, ⟨rfl, rfl, rfl⟩, blockAt_invShiftRows_eq_blockByte s.stateReg, putState_frame _ s⟩,
    fun b => ⟨invShiftRows_shiftRows b, shiftRows_invShiftRows b⟩, rfl⟩

end Sys2Proof
end

section
/-!
PROOFS. MIX_COLUMNS and INV_MIX_COLUMNS: both multiply a column by a circulant matrix over the field of R141, and the
product of two circulant matrices is circulant, so that they undo each other by one product of coefficients.
-/
namespace Sys2Proof

open Sys2Proof.Machine

/-! ### Circulant matrices -/

/-- Row r of the circulant matrix with first row `k`, times the column `a`. -/
def circulantRow (k a : Col) (r : Fin 4) : Byte :=
  gfMul k.b0 (colByte a r) ^^^ gfMul k.b1 (colByte a (r + 1)) ^^^ gfMul k.b2 (colByte a (r + 2)) ^^^
    gfMul k.b3 (colByte a (r + 3))

/-- The circulant matrix with first row `k`, times the column `a`. -/
def circulant (k a : Col) : Col := colOfFn (circulantRow k a)

@[simp] theorem colByte_circulant (k a : Col) (r : Fin 4) : colByte (circulant k a) r = circulantRow k a r :=
  colByte_colOfFn _ r

theorem circulant_one (a : Col) : circulant ⟨1#8, 0#8, 0#8, 0#8⟩ a = a :=
  col_ext fun r => by simp [circulantRow]

/-- On a column of equal bytes the matrix is one factor, the sum of its row. -/
theorem circulant_equal_bytes {k : Col} (h : k.b0 ^^^ k.b1 ^^^ k.b2 ^^^ k.b3 = 1#8) (v : Byte) :
    circulant k ⟨v, v, v, v⟩ = ⟨v, v, v, v⟩ := by
  have hbyte : ∀ j, colByte ⟨v, v, v, v⟩ j = v := fun j => by
    match j with
    | 0 | 1 | 2 | 3 => rfl
  exact col_ext fun r => by simp only [colByte_circulant, circulantRow, hbyte, ← gfMul_xor_left, h, gfMul_one_left]

/-- The first row of the product of two circulant matrices. -/
def circulantProduct (k m : Col) : Col where
  b0 := gfMul k.b0 m.b0 ^^^ gfMul k.b1 m.b3 ^^^ gfMul k.b2 m.b2 ^^^ gfMul k.b3 m.b1
  b1 := gfMul k.b0 m.b1 ^^^ gfMul k.b1 m.b0 ^^^ gfMul k.b2 m.b3 ^^^ gfMul k.b3 m.b2
  b2 := gfMul k.b0 m.b2 ^^^ gfMul k.b1 m.b1 ^^^ gfMul k.b2 m.b0 ^^^ gfMul k.b3 m.b3
  b3 := gfMul k.b0 m.b3 ^^^ gfMul k.b1 m.b2 ^^^ gfMul k.b2 m.b1 ^^^ gfMul k.b3 m.b0

/-- One matrix after the other is their product. -/
theorem circulant_circulant (k m a : Col) : circulant k (circulant m a) = circulant (circulantProduct k m) a := by
  refine col_ext fun r => ?_
  simp only [colByte_circulant, circulantRow, circulantProduct, gfMul_xor_right, gfMul_xor_left, ← gfMul_assoc,
    add_assoc, Fin.reduceAdd, Fin.isValue, add_zero]
  ac_rfl

/-! ### The two matrices -/

/-- The first row of the MixColumns matrix (R174). -/
def mixRow : Col := ⟨2#8, 3#8, 1#8, 1#8⟩

/-- The first row of the InvMixColumns matrix (R175). -/
def invMixRow : Col := ⟨0x0e#8, 0x0b#8, 0x0d#8, 0x09#8⟩

/-- Row r of MixColumns on a column (R174). -/
theorem colByte_mixCol (a : Col) (r : Fin 4) : colByte (mixCol a) r =
    gfMul 0x02 (colByte a r) ^^^ gfMul 0x03 (colByte a (r + 1)) ^^^ colByte a (r + 2) ^^^ colByte a (r + 3) := by
  match r with
  | 0 => rfl
  | 1 | 2 | 3 =>
    simp only [mixCol, colByte, Fin.reduceAdd, Fin.isValue]
    ac_rfl

/-- Row r of InvMixColumns on a column (R175). -/
theorem colByte_invMixCol (a : Col) (r : Fin 4) : colByte (invMixCol a) r =
    gfMul 0x0e (colByte a r) ^^^ gfMul 0x0b (colByte a (r + 1)) ^^^ gfMul 0x0d (colByte a (r + 2)) ^^^
      gfMul 0x09 (colByte a (r + 3)) := by
  match r with
  | 0 => rfl
  | 1 | 2 | 3 =>
    simp only [invMixCol, colByte, Fin.reduceAdd, Fin.isValue]
    ac_rfl

theorem mixCol_eq_circulant (a : Col) : mixCol a = circulant mixRow a :=
  col_ext fun r => by
    rw [colByte_mixCol, colByte_circulant, circulantRow, mixRow, gfMul_one_left, gfMul_one_left]
    rfl

theorem invMixCol_eq_circulant (a : Col) : invMixCol a = circulant invMixRow a :=
  col_ext fun r => by
    rw [colByte_invMixCol, colByte_circulant]
    rfl

@[simp] theorem invMixCol_mixCol (a : Col) : invMixCol (mixCol a) = a := by
  have hrow : circulantProduct invMixRow mixRow = ⟨1#8, 0#8, 0#8, 0#8⟩ := rfl
  rw [invMixCol_eq_circulant, mixCol_eq_circulant, circulant_circulant, hrow, circulant_one]

@[simp] theorem mixCol_invMixCol (a : Col) : mixCol (invMixCol a) = a := by
  have hrow : circulantProduct mixRow invMixRow = ⟨1#8, 0#8, 0#8, 0#8⟩ := rfl
  rw [invMixCol_eq_circulant, mixCol_eq_circulant, circulant_circulant, hrow, circulant_one]

theorem mixCol_equal_bytes (v : Byte) : mixCol ⟨v, v, v, v⟩ = ⟨v, v, v, v⟩ := by
  rw [mixCol_eq_circulant, circulant_equal_bytes rfl]

theorem invMixCol_equal_bytes (v : Byte) : invMixCol ⟨v, v, v, v⟩ = ⟨v, v, v, v⟩ := by
  rw [invMixCol_eq_circulant, circulant_equal_bytes rfl]

/-! ### Column by column -/

/-- Row r of column c after MixColumns (R174). -/
theorem blockAt_mixColumns (b : Block) (r c : Fin 4) : blockAt (mixColumns b) r c =
    gfMul 0x02 (blockAt b r c) ^^^ gfMul 0x03 (blockAt b (r + 1) c) ^^^ blockAt b (r + 2) c ^^^
      blockAt b (r + 3) c := by
  match c with
  | 0 | 1 | 2 | 3 => exact colByte_mixCol _ r

/-- Row r of column c after InvMixColumns (R175). -/
theorem blockAt_invMixColumns (b : Block) (r c : Fin 4) : blockAt (invMixColumns b) r c =
    gfMul 0x0e (blockAt b r c) ^^^ gfMul 0x0b (blockAt b (r + 1) c) ^^^ gfMul 0x0d (blockAt b (r + 2) c) ^^^
      gfMul 0x09 (blockAt b (r + 3) c) := by
  match c with
  | 0 | 1 | 2 | 3 => exact colByte_invMixCol _ r

@[simp] theorem invMixColumns_mixColumns (b : Block) : invMixColumns (mixColumns b) = b := by
  simp [invMixColumns, mixColumns]

@[simp] theorem mixColumns_invMixColumns (b : Block) : mixColumns (invMixColumns b) = b := by
  simp [invMixColumns, mixColumns]

/-- Settles O37, by the byte at each row and column. -/
theorem mixColumnsMultipliesEachColumn : Obligations.MixColumnsMultipliesEachColumn :=
  ⟨spells_of_encode_eq rfl rfl,
    fun s => ⟨_, rfl, ⟨rfl, rfl, rfl⟩, blockAt_mixColumns s.stateReg, putState_frame _ s⟩, rfl, mixCol_equal_bytes,
    rfl, rfl⟩

/-- Settles O38, by the byte at each row and column and the product of the two matrices. -/
theorem invMixColumnsUndoesMixColumns : Obligations.InvMixColumnsUndoesMixColumns :=
  ⟨spells_of_encode_eq rfl rfl,
    fun s => ⟨_, rfl, ⟨rfl, rfl, rfl⟩, blockAt_invMixColumns s.stateReg, putState_frame _ s⟩,
    fun b => ⟨invMixColumns_mixColumns b, mixColumns_invMixColumns b⟩, invMixCol_equal_bytes, rfl⟩

end Sys2Proof
end

section
/-!
PROOFS. ADD_ROUND_KEY, ENC_ROUND and DEC_ROUND: the three kinds of round and the errors of R176.
-/
namespace Sys2Proof

open Sys2Proof.Machine

/-! ### Adding a round key -/

/-- Byte j of column c of a round key is byte j of word 4r + c (R45). -/
theorem blockAt_roundKey (ks : Vector Col 60) (r : Nat) (j c : Fin 4) :
    blockAt (roundKey ks r) j c = colByte (scheduleWord ks (4 * r + c.val)) j := by
  match c with
  | 0 | 1 | 2 | 3 => rfl

/-- Row j of column c after AddRoundKey (R176). -/
theorem blockAt_addRoundKey (ks : Vector Col 60) (b : Block) (r : Nat) (j c : Fin 4) :
    blockAt (addRoundKey ks b r) j c = blockAt b j c ^^^ colByte (scheduleWord ks (4 * r + c.val)) j := by
  rw [addRoundKey, blockAt_blockXor, blockAt_roundKey]

@[simp] theorem addRoundKey_addRoundKey (ks : Vector Col 60) (b : Block) (r : Nat) :
    addRoundKey ks (addRoundKey ks b r) r = b :=
  blockXor_blockXor_right b _

theorem blockXor_zero_left (b : Block) : blockXor Block.zero b = b := by
  have hzero : blockXor b b = Block.zero := by simp [blockXor, colXor, Block.zero, Col.zero]
  rw [← hzero, blockXor_blockXor_right]

/-- Settles O39, by the byte at each row and column and the checks in their order. -/
theorem addRoundKeyXorsTheRoundKey : Obligations.AddRoundKeyXorsTheRoundKey := by
  refine ⟨spells_round (op := 0x07) (fun _ => rfl) (fun _ => rfl) fun _ => rfl, fun s rnd hks _ hrnd => ?_,
    fun s rnd hks => failsWith_of_raiseError (runChecked_without_schedule hks _ _),
    fun s rnd hks hrnd => failsWith_of_raiseError (runRound_of_lt hks hrnd _), addRoundKey_addRoundKey,
    fun ks r => blockXor_zero_left _, fun ks hkey => ?_⟩
  · exact ⟨_, runRound_of_le hks hrnd _, ⟨rfl, rfl, rfl⟩, blockAt_addRoundKey s.ks s.stateReg rnd, putState_frame _ s⟩
  · rw [addRoundKey, hkey]
    rfl

/-! ### The kinds of round -/

theorem encRound_zero (ks : Vector Col 60) (nr : Nat) (b : Block) : encRound ks nr b 0 = addRoundKey ks b 0 := rfl

theorem encRound_middle {nr r : Nat} (hr : r ≠ 0) (hlt : r < nr) (ks : Vector Col 60) (b : Block) :
    encRound ks nr b r = addRoundKey ks (mixColumns (shiftRows (subBytes b))) r := by
  simp [encRound, hr, hlt]

theorem encRound_last {nr : Nat} (hr : nr ≠ 0) (ks : Vector Col 60) (b : Block) :
    encRound ks nr b nr = addRoundKey ks (shiftRows (subBytes b)) nr := by
  simp [encRound, hr]

theorem decRound_last (ks : Vector Col 60) (nr : Nat) (b : Block) :
    decRound ks nr b nr = addRoundKey ks b nr :=
  if_pos rfl

theorem decRound_middle {nr r : Nat} (hr : r ≠ 0) (hlt : r < nr) (ks : Vector Col 60) (b : Block) :
    decRound ks nr b r = invMixColumns (addRoundKey ks (invSubBytes (invShiftRows b)) r) := by
  simp [decRound, hr, hlt.ne]

/-- The pseudocode's round 0 (log entry 19). -/
theorem decRound_zero {nr : Nat} (hr : nr ≠ 0) (ks : Vector Col 60) (b : Block) :
    decRound ks nr b 0 = addRoundKey ks (invSubBytes (invShiftRows b)) 0 := by
  simp [decRound, hr.symm]

/-- With a schedule and `rnd <= NR` ENC_ROUND writes its round's block (R177). -/
theorem exec_encRound {s : State} {rnd : Nat} (hks : s.ksValid = true) (hrnd : rnd ≤ s.nr.toNat) :
    exec (.encRound rnd) s = .next (complete .none (putState (encRound s.ks s.nr.toNat s.stateReg rnd) s)) :=
  runRound_of_le hks hrnd _

/-- With a schedule and `rnd <= NR` DEC_ROUND writes its round's block (R178). -/
theorem exec_decRound {s : State} {rnd : Nat} (hks : s.ksValid = true) (hrnd : rnd ≤ s.nr.toNat) :
    exec (.decRound rnd) s = .next (complete .none (putState (decRound s.ks s.nr.toNat s.stateReg rnd) s)) :=
  runRound_of_le hks hrnd _

/-- Settles O40, by the kinds of round and the checks in their order. -/
theorem encRoundStepsTheEncryptMachine : Obligations.EncRoundStepsTheEncryptMachine := by
  refine ⟨spells_round (op := 0x08) (fun _ => rfl) (fun _ => rfl) fun _ => rfl, fun s rnd hks hrnd => ?_,
    fun s rnd hks => failsWith_of_raiseError (runChecked_without_schedule hks _ _),
    fun s rnd hks hrnd => failsWith_of_raiseError (runRound_of_lt hks hrnd _)⟩
  refine ⟨_, exec_encRound hks hrnd, ⟨rfl, rfl, rfl⟩, ?_, fun h1 hlt => ?_, ?_, putState_frame _ s⟩
  · rintro rfl
    exact encRound_zero s.ks s.nr.toNat _
  · exact encRound_middle (by omega) hlt s.ks _
  · rintro h0 rfl
    exact encRound_last h0 s.ks _

/-- Settles O41, by the kinds of round and the checks in their order. -/
theorem decRoundStepsTheDecryptMirror : Obligations.DecRoundStepsTheDecryptMirror := by
  refine ⟨spells_round (op := 0x09) (fun _ => rfl) (fun _ => rfl) fun _ => rfl, fun s rnd hks hrnd => ?_,
    fun s rnd hks => failsWith_of_raiseError (runChecked_without_schedule hks _ _),
    fun s rnd hks hrnd => failsWith_of_raiseError (runRound_of_lt hks hrnd _)⟩
  refine ⟨_, exec_decRound hks hrnd, ⟨rfl, rfl, rfl⟩, ?_, fun h1 hlt => ?_, ?_, putState_frame _ s⟩
  · rintro rfl
    exact decRound_last s.ks _ _
  · exact decRound_middle (by omega) hlt s.ks _
  · rintro rfl hne
    exact decRound_zero hne.symm s.ks _

end Sys2Proof
end

section
/-!
PROOFS. ENCRYPT_BLOCK and DECRYPT_BLOCK as the chain of their rounds, and block decryption as the inverse of block
encryption: before each round the decrypt mirror holds what the encrypt machine had at that point, taken through
SubBytes and ShiftRows.
-/
namespace Sys2Proof

open Sys2Proof.Machine

/-! ### The chains of rounds -/

/-- The block after encrypt rounds 0, ..., n - 1 (R179). -/
def encRoundsTo (ks : Vector Col 60) (nr : Nat) (x : Block) (n : Nat) : Block :=
  (List.range n).foldl (encRound ks nr) x

/-- The block after decrypt rounds nr, ..., n (R179). -/
def decRoundsFrom (ks : Vector Col 60) (nr : Nat) (y : Block) (n : Nat) : Block :=
  ((List.range (nr + 1)).drop n).reverse.foldl (decRound ks nr) y

theorem encRoundsTo_succ (ks : Vector Col 60) (nr : Nat) (x : Block) (n : Nat) :
    encRoundsTo ks nr x (n + 1) = encRound ks nr (encRoundsTo ks nr x n) n := by
  simp [encRoundsTo, List.range_succ]

theorem decRoundsFrom_start (ks : Vector Col 60) (nr : Nat) (y : Block) : decRoundsFrom ks nr y (nr + 1) = y := by
  simp [decRoundsFrom, List.drop_eq_nil_of_le]

theorem decRoundsFrom_step {nr n : Nat} (hn : n ≤ nr) (ks : Vector Col 60) (y : Block) :
    decRoundsFrom ks nr y n = decRound ks nr (decRoundsFrom ks nr y (n + 1)) n := by
  have hdrop : (List.range (nr + 1)).drop n = n :: (List.range (nr + 1)).drop (n + 1) := by
    rw [List.drop_eq_getElem_cons (by simp; omega), List.getElem_range]
  simp [decRoundsFrom, hdrop]

/-! ### Decryption inverts encryption -/

/-- What the decrypt mirror holds before its rounds n - 1, ..., 0 when it decrypts a block that was `b` after encrypt
rounds 0, ..., n - 1: at the two ends `b` itself, and between them `b` after SubBytes and ShiftRows. -/
def decEntry (nr n : Nat) (b : Block) : Block :=
  if n = 0 ∨ n = nr + 1 then b else shiftRows (subBytes b)

/-- Each decrypt round undoes the encrypt round of its index. -/
theorem decRound_decEntry {nr n : Nat} (hn : n ≤ nr) (ks : Vector Col 60) (b : Block) :
    decRound ks nr (decEntry nr (n + 1) (encRound ks nr b n)) n = decEntry nr n b := by
  obtain rfl | h0 := eq_or_ne n 0
  · obtain rfl | hnr := eq_or_ne nr 0
    · simp [decEntry, encRound_zero, decRound_last]
    · simp [decEntry, encRound_zero, decRound_zero hnr, hnr]
  · obtain rfl | hnr := eq_or_ne n nr
    · simp [decEntry, encRound_last h0, decRound_last, h0]
    · have hlt : n < nr := by omega
      have hne : n ≠ nr + 1 := by omega
      simp [decEntry, encRound_middle h0 hlt, decRound_middle h0 hlt, h0, hnr, hne]

theorem decRoundsFrom_encryptBlock {nr n : Nat} (hn : n ≤ nr + 1) (ks : Vector Col 60) (x : Block) :
    decRoundsFrom ks nr (encryptBlock ks nr x) n = decEntry nr n (encRoundsTo ks nr x n) := by
  induction hn using Nat.decreasingInduction with
  | self => simp [decRoundsFrom_start, decEntry, encryptBlock, encRoundsTo]
  | of_succ n hn ih =>
    have hle : n ≤ nr := by omega
    rw [decRoundsFrom_step hle, ih, encRoundsTo_succ, decRound_decEntry hle]

theorem decryptBlock_encryptBlock (ks : Vector Col 60) (nr : Nat) (x : Block) :
    decryptBlock ks nr (encryptBlock ks nr x) = x :=
  decRoundsFrom_encryptBlock (Nat.zero_le _) ks x

/-- There are finitely many blocks: one is fixed by its bytes. -/
theorem finite_block : Finite Block :=
  Finite.of_injective blockAt fun _ _ h => block_ext fun r c => congrFun (congrFun h r) c

/-- Encryption is injective, so every block is an encryption, and decryption is its inverse on both sides. -/
theorem encryptBlock_decryptBlock (ks : Vector Col 60) (nr : Nat) (y : Block) :
    encryptBlock ks nr (decryptBlock ks nr y) = y := by
  have hfinite := finite_block
  have hinverse : Function.LeftInverse (decryptBlock ks nr) (encryptBlock ks nr) := decryptBlock_encryptBlock ks nr
  exact hinverse.rightInverse_of_surjective (Finite.surjective_of_injective hinverse.injective) y

/-- Settles O42, by the inverse of each round and the finiteness of blocks. -/
theorem blockDecryptionInvertsEncryption : Obligations.BlockDecryptionInvertsEncryption :=
  fun ks nr x => ⟨decryptBlock_encryptBlock ks nr x, encryptBlock_decryptBlock ks nr x⟩

/-! ### The block commands -/

theorem exec_encryptBlock {s : State} (h : s.ksValid = true) :
    exec .encryptBlock s = .next (complete .none (putState (encryptBlock s.ks s.nr.toNat s.stateReg) s)) :=
  runChecked_with_schedule h _

theorem exec_decryptBlock {s : State} (h : s.ksValid = true) :
    exec .decryptBlock s = .next (complete .none (putState (decryptBlock s.ks s.nr.toNat s.stateReg) s)) :=
  runChecked_with_schedule h _

/-- Settles O43: the chain is the block after each number of encrypt rounds. -/
theorem encryptBlockIsTheRoundsInOrder : Obligations.EncryptBlockIsTheRoundsInOrder := by
  refine ⟨spells_of_encode_eq rfl rfl, fun s hks => ?_,
    fun s hks => failsWith_of_raiseError (runChecked_without_schedule hks _ _)⟩
  refine ⟨_, exec_encryptBlock hks, ⟨rfl, rfl, rfl⟩,
    ⟨encRoundsTo s.ks s.nr.toNat s.stateReg, rfl, rfl, fun r hr => ?_⟩, putState_frame _ s⟩
  exact ⟨_, exec_encRound hks hr, rfl, (encRoundsTo_succ s.ks _ _ r).symm⟩

/-- Settles O44: the chain is the block after each number of decrypt rounds; and decryption undoes encryption. -/
theorem decryptBlockIsTheMirrorInOrder : Obligations.DecryptBlockIsTheMirrorInOrder := by
  refine ⟨spells_of_encode_eq rfl rfl, fun s hks => ?_,
    fun s hks => failsWith_of_raiseError (runChecked_without_schedule hks _ _), fun s hks => ?_⟩
  · refine ⟨_, exec_decryptBlock hks, ⟨rfl, rfl, rfl⟩,
      ⟨decRoundsFrom s.ks s.nr.toNat s.stateReg, decRoundsFrom_start s.ks _ _, rfl, fun r hr => ?_⟩, putState_frame _ s⟩
    exact ⟨_, exec_decRound hks hr, rfl, (decRoundsFrom_step hr s.ks _).symm⟩
  · exact ⟨_, _, exec_encryptBlock hks, exec_decryptBlock hks, rfl, decryptBlock_encryptBlock s.ks _ s.stateReg⟩

end Sys2Proof
end

section
/-!
PROOFS. KEY_EXPAND: the schedule follows the recurrence of R211, and is a function of the key words it uses. The loop
keeps the words it has and carries the round constant of the next word.
-/
namespace Sys2Proof

open Sys2Proof.Machine

/-! ### The loop of the schedule -/

/-- The round constant the loop carries at word `i`: 0x01 doubled once for each multiple of Nk passed before `i` (R211). -/
def roundConstant (nk i : Nat) : Byte := xtime^[(i - 1) / nk] 0x01

/-- At a multiple of Nk the constant is `xtime^(i/Nk - 1)` of 0x01 (R211). -/
theorem roundConstant_of_dvd {nk i : Nat} (hpos : 0 < i) (h : nk ∣ i) :
    roundConstant nk i = xtime^[i / nk - 1] 0x01 := by
  obtain ⟨q, rfl⟩ := h
  have hnk : 0 < nk := Nat.pos_of_mul_pos_right hpos
  rw [roundConstant, Nat.mul_sub_div 0 nk q hpos, Nat.zero_div, zero_add, Nat.mul_div_cancel_left q hnk]

/-- The loop's update of the round constant (R211). -/
theorem roundConstant_succ {nk i : Nat} (hpos : 0 < i) :
    roundConstant nk (i + 1) = if i % nk = 0 then xtime (roundConstant nk i) else roundConstant nk i := by
  obtain ⟨k, rfl⟩ := Nat.exists_eq_succ_of_ne_zero hpos.ne'
  simp only [roundConstant, Nat.succ_eq_add_one, Nat.add_sub_cancel, Nat.succ_div, Nat.dvd_iff_mod_eq_zero]
  split
  · exact Function.iterate_succ_apply' xtime _ _
  · rfl

/-- The word the loop adds after the words `w` (R211). -/
def nextWord (nk : Nat) (rc : Byte) (w : List Col) : Col :=
  colXor (w.getD (w.length - nk) Col.zero) (scheduleTemp nk w.length rc (w.getD (w.length - 1) Col.zero))

theorem expandLoop_succ (nk n : Nat) (rc : Byte) (w : List Col) : expandLoop nk (n + 1) rc w =
    expandLoop nk n (if w.length % nk = 0 then xtime rc else rc) (w ++ [nextWord nk rc w]) := rfl

/-- The loop keeps the words it starts from. -/
theorem getD_expandLoop_of_lt {nk n : Nat} {rc : Byte} {w : List Col} {i : Nat} (h : i < w.length) :
    (expandLoop nk n rc w).getD i Col.zero = w.getD i Col.zero := by
  induction n generalizing rc w with
  | zero => rfl
  | succ n ih => rw [expandLoop_succ, ih (by simp; omega), List.getD_append _ _ _ _ h]

/-- A word's round constant counts only at the multiples of Nk (R211). -/
theorem scheduleTemp_roundConstant {nk i : Nat} (hpos : 0 < i) (temp : Col) :
    scheduleTemp nk i (roundConstant nk i) temp = scheduleTemp nk i (xtime^[i / nk - 1] 0x01) temp := by
  unfold scheduleTemp
  split
  · rw [roundConstant_of_dvd hpos (Nat.dvd_of_mod_eq_zero ‹_›)]
  · rfl

/-- `w[i] = w[i - Nk] ⊕ temp`, with `xtime^(i/Nk - 1)` of 0x01 as the round constant (R211). -/
def FollowsRecurrence (nk : Nat) (w : Nat → Col) (i : Nat) : Prop :=
  w i = colXor (w (i - nk)) (scheduleTemp nk i (xtime^[i / nk - 1] 0x01) (w (i - 1)))

/-- Every word the loop adds follows the recurrence, when the loop starts with the round constant of its first word. -/
theorem followsRecurrence_expandLoop {nk n : Nat} {w : List Col} {i : Nat} (hnk : 0 < nk) (hw : nk ≤ w.length)
    (hlo : w.length ≤ i) (hhi : i < w.length + n) :
    FollowsRecurrence nk ((expandLoop nk n (roundConstant nk w.length) w).getD · Col.zero) i := by
  induction n generalizing w with
  | zero => omega
  | succ n ih =>
    have hpos : 0 < w.length := by omega
    obtain rfl | hne := eq_or_ne i w.length
    · simp only [FollowsRecurrence]
      rw [getD_expandLoop_of_lt (i := w.length - nk) (by omega),
        getD_expandLoop_of_lt (i := w.length - 1) (by omega), expandLoop_succ, getD_expandLoop_of_lt (by simp),
        List.getD_append_right _ _ _ _ le_rfl, Nat.sub_self, ← scheduleTemp_roundConstant hpos]
      rfl
    · have hlen : (w ++ [nextWord nk (roundConstant nk w.length) w]).length = w.length + 1 := List.length_append
      rw [expandLoop_succ, ← roundConstant_succ hpos, ← hlen]
      exact ih (by omega) (by omega) (by omega)

/-! ### The words of the schedule -/

/-- KSi is word i of the schedule where there is one, and 0 beyond (R211, R212). -/
theorem scheduleWord_keySchedule {ksz : Nat} (h : ksz ≤ 2) (key : Vector Col 8) :
    scheduleWord (keySchedule ksz key) = ((scheduleWords ksz key).getD · Col.zero) := by
  funext i
  unfold scheduleWord
  split
  · simp [keySchedule]
  · have hlen : (scheduleWords ksz key).length ≤ i := by
      rw [length_scheduleWords h, nrOf, nkOf]
      omega
    exact (List.getD_eq_default _ _ hlen).symm

theorem length_take_nkOf {ksz : Nat} (h : ksz ≤ 2) (key : Vector Col 8) :
    (key.toList.take (nkOf ksz)).length = nkOf ksz := by
  rw [List.length_take, Vector.length_toList, nkOf]
  omega

/-- The first Nk words are the key's (R211). -/
theorem scheduleWord_of_lt_nkOf {ksz : Nat} (h : ksz ≤ 2) (key : Vector Col 8) {i : Fin 8} (hi : i.val < nkOf ksz) :
    scheduleWord (keySchedule ksz key) i.val = key[i] := by
  have hlen := length_take_nkOf h key
  simp only [scheduleWord_keySchedule h, scheduleWords]
  rw [getD_expandLoop_of_lt (by omega)]
  simp [List.getD_eq_getElem?_getD, hi]

/-- Each later word follows the recurrence: the loop starts at word Nk with the round constant 0x01 (R211). -/
theorem followsRecurrence_keySchedule {ksz : Nat} (h : ksz ≤ 2) (key : Vector Col 8) {i : Nat}
    (hlo : nkOf ksz ≤ i) (hhi : i < 4 * (nrOf ksz + 1)) :
    FollowsRecurrence (nkOf ksz) (scheduleWord (keySchedule ksz key)) i := by
  have hlen := length_take_nkOf h key
  have hpos : 0 < nkOf ksz := by simp [nkOf]
  have hstart : roundConstant (nkOf ksz) (key.toList.take (nkOf ksz)).length = 0x01 := by
    rw [hlen, roundConstant_of_dvd hpos dvd_rfl, Nat.div_self hpos]
    rfl
  rw [scheduleWord_keySchedule h, scheduleWords, ← hstart]
  exact followsRecurrence_expandLoop hpos hlen.ge (by omega) (by omega)

/-- The schedule is that of the first Nk key words: the others are ignored (R211). -/
theorem keySchedule_congr {ksz : Nat} {key key' : Vector Col 8}
    (h : ∀ i : Fin 8, i.val < nkOf ksz → key'[i] = key[i]) : keySchedule ksz key' = keySchedule ksz key := by
  have htake : key'.toList.take (nkOf ksz) = key.toList.take (nkOf ksz) := by
    refine List.ext_getElem (by simp) fun i hi _ => ?_
    obtain ⟨hnk, h8⟩ : i < nkOf ksz ∧ i < 8 := by simpa using hi
    simpa using h ⟨i, h8⟩ hnk
  simp only [keySchedule, scheduleWords, htake]

/-! ### The command -/

/-- With a legal size and length KEY_EXPAND writes the schedule of the key registers (R211). -/
theorem exec_keyExpand {s : State} (hksz : s.ctrlKsz ≠ 3) (hlen : s.keyLen.toNat = 16 + 8 * s.ctrlKsz.toNat) :
    exec .keyExpand s = .next (complete .none
      (putSchedule s.ctrlKsz.toNat (keySchedule s.ctrlKsz.toNat s.key) s)) := by
  have hcheck : keyLengthCheck s = .none := if_pos ⟨hksz, hlen⟩
  exact (runChecked_eq [keyLengthCheck s] _ s).trans (by simp [hcheck, keySizeOperand])

/-- With any other it raises INVALID_KEY_LENGTH (R211). -/
theorem exec_keyExpand_of_illegal {s : State} (h : s.ctrlKsz = 3 ∨ s.keyLen.toNat ≠ 16 + 8 * s.ctrlKsz.toNat) :
    exec .keyExpand s = raiseError .invalidKeyLength s := by
  have hcheck : keyLengthCheck s = .invalidKeyLength :=
    if_neg fun ⟨hksz, hlen⟩ => h.elim hksz fun hne => hne hlen
  exact (runChecked_eq [keyLengthCheck s] _ s).trans (by simp [hcheck, raiseError])

/-- Only INFO and the words of KS show a write of the schedule; the flags stand in STATUS (R50). -/
theorem putSchedule_keepsRegs (ksz : Nat) (ks : Vector Col 60) (s : State) :
    KeepsRegs scheduleAndStatus s (complete .none (putSchedule ksz ks s)) := by
  intro r hr
  cases r with
  | status | info | ks => cases hr
  | _ => rfl

/-- Lane j of KSi, as read, is byte j of word i (R45). -/
theorem extract_readReg_ks (t : State) (i : Fin 60) (j : Fin 4) :
    (readReg t (.ks i)).extractLsb' (8 * j.val) 8 = colByte (scheduleWord t.ks i.val) j := by
  rw [scheduleWord, dif_pos i.isLt]
  exact extract_le32 _ j

/-- Settles O45, by the recurrence of the loop and the lanes of a register word. -/
theorem keyExpandFollowsTheRecurrence : Obligations.KeyExpandFollowsTheRecurrence := by
  refine ⟨spells_of_encode_eq rfl rfl, fun s hksz hlen => ?_,
    fun s h => failsWith_of_raiseError (exec_keyExpand_of_illegal h)⟩
  have hle : s.ctrlKsz.toNat ≤ 2 := keySizeOperand_le_two hksz
  refine ⟨_, exec_keyExpand hksz hlen, ⟨rfl, rfl, rfl⟩, fun i hi => scheduleWord_of_lt_nkOf hle s.key hi,
    fun i hlo hhi => followsRecurrence_keySchedule hle s.key hlo hhi, fun i hlo hhi => ?_, extract_readReg_ks _,
    toNat_nkOf hle, toNat_nrOf hle, rfl, rfl, rfl, rfl, rfl, rfl, putSchedule_keepsRegs _ _ s, rfl, rfl, rfl⟩
  exact (dif_pos hhi).trans (keySchedule_unused hle s.key (i := ⟨i, hhi⟩) hlo)

/-- Settles O46: the schedules are equal because the words of the key they use are. -/
theorem scheduleDependsOnlyOnTheKeyUsed : Obligations.ScheduleDependsOnlyOnTheKeyUsed := by
  intro s s' hksz hsize hlen hlen' hkey
  have hexec := exec_keyExpand (s := s') (hsize ▸ hksz) (by rw [hsize, hlen', hlen])
  rw [hsize, keySchedule_congr hkey] at hexec
  exact ⟨_, _, exec_keyExpand hksz hlen, hexec, rfl, rfl, rfl, rfl, rfl⟩

end Sys2Proof
end

section
/-!
PROOFS. Padding and stripping (R239, R240): both are read off the last nonzero byte of a block.
-/
namespace Sys2Proof

open Sys2Proof.Machine

/-! ### The bytes of a block -/

@[simp] theorem length_blockBytes (b : Block) : (blockBytes b).length = 16 := rfl

theorem blockByte_eq_getElem (b : Block) {k : Nat} (h : k < (blockBytes b).length) :
    blockByte b k = (blockBytes b)[k] :=
  List.getD_eq_getElem _ _ h

/-- The first `n` of the padded bytes are the chunk, the next is the marker, the rest are 0 (R239). -/
theorem blockByte_padBlock (d : Block) (n : Nat) {k : Nat} (h : k < 16) :
    blockByte (padBlock d n) k = if k < n then blockByte d k else if k = n then 0x80 else 0x00 :=
  blockByte_blockOfBytes _ h

theorem blockByte_keepBytes (b : Block) (m : Nat) {k : Nat} (h : k < 16) :
    blockByte (keepBytes b m) k = if k < m then blockByte b k else 0x00 :=
  blockByte_blockOfBytes _ h

theorem padBlock_sixteen (d : Block) : padBlock d 16 = d :=
  block_ext_bytes fun _ h => by rw [blockByte_padBlock d 16 h, if_pos h]

theorem take_blockBytes_congr {a b : Block} {n : Nat} (h : ∀ k < 16, k < n → blockByte a k = blockByte b k) :
    (blockBytes a).take n = (blockBytes b).take n := by
  refine List.ext_getElem (by simp) fun k hk _ => ?_
  obtain ⟨hn, h16⟩ : k < n ∧ k < 16 := by simpa using hk
  rw [List.getElem_take, List.getElem_take, ← blockByte_eq_getElem, ← blockByte_eq_getElem, h k h16 hn]

/-! ### Blocks that end in zeros -/

/-- Every byte after index `m` is 0. -/
def ZeroAfter (b : Block) (m : Nat) : Prop := ∀ k, m < k → k < 16 → blockByte b k = 0x00

/-- A block with zeros after index `m` is the bytes before it, the byte there, and the zeros. -/
theorem ZeroAfter.blockBytes_eq {b : Block} {m : Nat} (h : ZeroAfter b m) (hm : m < 16) :
    blockBytes b = (blockBytes b).take m ++ blockByte b m :: List.replicate (15 - m) 0x00 := by
  have htail : (blockBytes b).drop (m + 1) = List.replicate (15 - m) 0x00 := by
    refine List.ext_getElem (by simp) fun k hk _ => ?_
    have hlt : m + 1 + k < 16 := by simp at hk; omega
    rw [List.getElem_drop, List.getElem_replicate, ← blockByte_eq_getElem, h _ (by omega) hlt]
  rw [← htail, blockByte_eq_getElem b (by simpa using hm), List.getElem_cons_drop, List.take_append_drop]

/-- A block is all zeros, or it has a last nonzero byte. -/
theorem eq_zero_or_lastNonzero (b : Block) :
    b = Block.zero ∨ ∃ m < 16, blockByte b m ≠ 0x00 ∧ ZeroAfter b m := by
  by_cases hall : ∀ k < 16, blockByte b k = 0x00
  · refine .inl (block_ext_bytes fun k hk => (hall k hk).trans ?_)
    interval_cases k <;> rfl
  · obtain ⟨j, hj, hne⟩ : ∃ j < 16, blockByte b j ≠ 0x00 := by simpa using hall
    have hj' : j ≤ 15 := by omega
    have hle := Nat.findGreatest_le (P := fun k => blockByte b k ≠ 0x00) 15
    refine .inr ⟨Nat.findGreatest (fun k => blockByte b k ≠ 0x00) 15, by omega,
      Nat.findGreatest_spec (P := fun k => blockByte b k ≠ 0x00) hj' hne, fun k hlt hk => ?_⟩
    exact not_not.mp (Nat.findGreatest_is_greatest hlt (by omega))

/-! ### StripLen -/

/-- StripLen drops the zeros at the end and looks at the last nonzero byte (R240). -/
theorem stripLen_of_lastNonzero {b : Block} {m : Nat} (hm : m < 16) (hne : blockByte b m ≠ 0x00)
    (hz : ZeroAfter b m) : stripLen b = if blockByte b m = 0x80 then m else 16 := by
  have hrev : (blockBytes b).reverse =
      List.replicate (15 - m) 0x00 ++ blockByte b m :: ((blockBytes b).take m).reverse := by
    conv_lhs => rw [hz.blockBytes_eq hm]
    simp
  have hdrop : (blockBytes b).reverse.dropWhile (· == 0x00) = blockByte b m :: ((blockBytes b).take m).reverse := by
    rw [hrev, List.dropWhile_append_of_pos (by simp), List.dropWhile_cons_of_neg (by simpa using hne)]
  rw [stripLen, hdrop]
  simp [hm.le]

/-- A marker before zeros gives its index (R240). -/
theorem stripLen_of_marker {b : Block} {m : Nat} (hm : m < 16) (hmark : blockByte b m = 0x80) (hz : ZeroAfter b m) :
    stripLen b = m := by
  rw [stripLen_of_lastNonzero hm (by rw [hmark]; decide) hz, if_pos hmark]

/-- Without a marker the block is kept whole (R240). -/
theorem stripLen_eq_sixteen_iff (b : Block) :
    stripLen b = 16 ↔ ¬ ∃ m < 16, blockByte b m = 0x80 ∧ ZeroAfter b m := by
  constructor
  · rintro h16 ⟨m, hm, hmark, hz⟩
    have hstrip := stripLen_of_marker hm hmark hz
    omega
  · intro hnone
    obtain rfl | ⟨m, hm, hne, hz⟩ := eq_zero_or_lastNonzero b
    · rfl
    · rw [stripLen_of_lastNonzero hm hne hz, if_neg fun hmark => hnone ⟨m, hm, hmark, hz⟩]

theorem zeroAfter_padBlock (d : Block) (n : Nat) : ZeroAfter (padBlock d n) n := fun k hlt hk => by
  rw [blockByte_padBlock d n hk, if_neg (by omega), if_neg (by omega)]

/-- The marker of a short chunk (R239). -/
theorem blockByte_padBlock_self (d : Block) {n : Nat} (hn : n < 16) : blockByte (padBlock d n) n = 0x80 := by
  simp [blockByte_padBlock d n hn]

/-- A short chunk's padding is stripped exactly (R243). -/
theorem stripLen_padBlock (d : Block) {n : Nat} (hn : n < 16) : stripLen (padBlock d n) = n :=
  stripLen_of_marker hn (blockByte_padBlock_self d hn) (zeroAfter_padBlock d n)

theorem blockByte_padBlock_of_lt (d : Block) {n k : Nat} (hn : n ≤ 16) (hk : k < n) :
    blockByte (padBlock d n) k = blockByte d k := by
  rw [blockByte_padBlock d n (by omega), if_pos hk]

/-! ### The statements -/

/-- Settles O50: after the chunk's bytes the padded block has the marker and then zeros. -/
theorem padAppendsOneMarkerAndZeros : Obligations.PadAppendsOneMarkerAndZeros := by
  refine fun d => ⟨padBlock_sixteen d, fun n _ hn => ?_⟩
  have hn16 : n < 16 := by omega
  have htake : (blockBytes (padBlock d n)).take n = (blockBytes d).take n :=
    take_blockBytes_congr fun k _ hk => blockByte_padBlock_of_lt d hn16.le hk
  rw [(zeroAfter_padBlock d n).blockBytes_eq hn16, htake, blockByte_padBlock_self d hn16]

/-- Settles O51, by the last nonzero byte. -/
theorem stripRemovesZerosAndOneMarker : Obligations.StripRemovesZerosAndOneMarker := by
  refine fun x => ⟨fun m hm hmark hz => stripLen_of_marker hm hmark hz, fun h => ?_⟩
  rw [stripLen_eq_sixteen_iff]
  rintro ⟨m, hm, hmark, hz⟩
  exact h m hm (by rw [hmark]; decide) hz hmark

/-- Settles O52: a short chunk is always recovered, a full block when it has no marker. -/
theorem paddingRoundTripFailsExactlyOnMarkerTails : Obligations.PaddingRoundTripFailsExactlyOnMarkerTails := by
  intro d n _ hn
  have hbytes : ∀ k < n, blockByte (padBlock d n) k = blockByte d k := fun k hk => blockByte_padBlock_of_lt d hn hk
  obtain rfl | hlt : n = 16 ∨ n < 16 := by omega
  · rw [and_iff_left hbytes, padBlock_sixteen, stripLen_eq_sixteen_iff]
    simp only [true_and, ZeroAfter]
  · exact iff_of_true ⟨stripLen_padBlock d hlt, hbytes⟩ fun ⟨h16, _⟩ => by omega

end Sys2Proof
end

section
/-!
PROOFS. MODE_INIT, PROCESS_BLOCK and FINALIZE: what each writes when its checks pass, and the error it raises otherwise.
-/
namespace Sys2Proof

open Sys2Proof.Machine

/-! ### Checks in their order -/

theorem runChecked_cons_pass {e : ErrCode} (he : e = .none) (rest : List ErrCode) (effect s : State) :
    runChecked (e :: rest) effect s = runChecked rest effect s := by
  simp [runChecked, he]

theorem runChecked_cons_fail {e code : ErrCode} (he : e = code) (hcode : code ≠ .none) (rest : List ErrCode)
    (effect s : State) : runChecked (e :: rest) effect s = raiseError code s := by
  simp [runChecked, he, hcode]

theorem transformCheck_of_valid {s : State} (h : s.modeValid = true) : transformCheck s = .none := if_pos h

theorem transformCheck_of_invalid {s : State} (h : s.modeValid = false) : transformCheck s = .uninitialized :=
  if_neg (by simp [h])

/-- A missing schedule or instance is reported before any later check (R302). -/
theorem runChecked_without_instance {s : State} (h : s.ksValid = false ∨ s.modeValid = false) (rest : List ErrCode)
    (effect : State) :
    runChecked (scheduleCheck s :: transformCheck s :: rest) effect s = raiseError .uninitialized s := by
  cases hks : s.ksValid with
  | false => exact runChecked_without_schedule hks _ effect
  | true =>
    have hmv : s.modeValid = false := by simpa [hks] using h
    rw [runChecked_cons_pass (scheduleCheck_of_valid hks),
      runChecked_cons_fail (transformCheck_of_invalid hmv) (by decide)]

/-- With a schedule and an instance the later checks decide (R302). -/
theorem runChecked_with_instance {s : State} (hks : s.ksValid = true) (hmv : s.modeValid = true) (rest : List ErrCode)
    (effect : State) :
    runChecked (scheduleCheck s :: transformCheck s :: rest) effect s = runChecked rest effect s := by
  rw [runChecked_cons_pass (scheduleCheck_of_valid hks), runChecked_cons_pass (transformCheck_of_valid hmv)]

/-! ### A write of the transform instance -/

/-- INFO: NK, NR, MODE_R and DIR_R stand at [3:0], [7:4], [10:8] and 11, and the reserved bits read 0 (R38). -/
theorem infoWord_fields (s : State) :
    (infoWord s).extractLsb' 0 4 = s.nk ∧ (infoWord s).extractLsb' 4 4 = s.nr ∧
      (infoWord s).extractLsb' 8 3 = modeCode s.modeR ∧ ((infoWord s).getLsbD 11 = true ↔ s.dirR = .decrypt) ∧
      (infoWord s).extractLsb' 12 20 = 0 := by
  refine ⟨extractLsb'_eq_of_bits fun i hi => ?_, extractLsb'_eq_of_bits fun i hi => ?_,
    extractLsb'_eq_of_bits fun i hi => ?_, ?_, extractLsb'_eq_of_bits fun i hi => ?_⟩
  all_goals simp only [infoWord, BitVec.getLsbD_append]
  · interval_cases i <;> simp
  · interval_cases i <;> simp
  · interval_cases i <;> simp
  · cases s.dirR <;> simp [dirBit]
  · interval_cases i <;> simp

/-- The mode that a supported CTRL.MODE selects has that number (R32). -/
theorem modeCode_selectedMode {s : State} (h : s.ctrlMode ≤ 4) : modeCode (selectedMode s) = s.ctrlMode := by
  revert h
  unfold selectedMode
  generalize s.ctrlMode = m
  revert m
  decide

/-- Only FB and INFO show a write of the instance; MODE_VALID stands in STATUS (R50). -/
theorem putTransform_keepsRegs (mode : BlockMode) (dir : Direction) (fb : Block) (s : State) :
    KeepsRegs transformAndStatus s (complete .none (putTransform mode dir fb s)) := by
  intro r hr
  cases r with
  | status | info | fb => cases hr
  | _ => rfl

/-! ### MODE_INIT -/

theorem modeCheck_of_le {s : State} (h : s.ctrlMode ≤ 4) : modeCheck s = .none := if_pos h

theorem modeCheck_of_not_le {s : State} (h : ¬ s.ctrlMode ≤ 4) : modeCheck s = .unsupportedMode := if_neg h

theorem ivLengthCheck_of_legal {s : State} (h : s.ctrlMode = 0 ∨ s.ivLen = 16) : ivLengthCheck s = .none := if_pos h

theorem ivLengthCheck_of_illegal {s : State} (h : ¬ (s.ctrlMode = 0 ∨ s.ivLen = 16)) :
    ivLengthCheck s = .invalidIvLength :=
  if_neg h

theorem exec_modeInit {s : State} (hks : s.ksValid = true) (hmode : s.ctrlMode ≤ 4)
    (hiv : s.ctrlMode = 0 ∨ s.ivLen = 16) :
    exec .modeInit s = .next (complete .none (putTransform (selectedMode s) s.ctrlDir (initialFeedback s) s)) := by
  rw [exec, execModeInit, runChecked_cons_pass (scheduleCheck_of_valid hks),
    runChecked_cons_pass (modeCheck_of_le hmode), runChecked_cons_pass (ivLengthCheck_of_legal hiv)]
  rfl

theorem exec_modeInit_unsupported {s : State} (hks : s.ksValid = true) (hmode : ¬ s.ctrlMode ≤ 4) :
    exec .modeInit s = raiseError .unsupportedMode s := by
  rw [exec, execModeInit, runChecked_cons_pass (scheduleCheck_of_valid hks),
    runChecked_cons_fail (modeCheck_of_not_le hmode) (by decide)]

theorem exec_modeInit_iv {s : State} (hks : s.ksValid = true) (hmode : s.ctrlMode ≤ 4)
    (hiv : ¬ (s.ctrlMode = 0 ∨ s.ivLen = 16)) : exec .modeInit s = raiseError .invalidIvLength s := by
  rw [exec, execModeInit, runChecked_cons_pass (scheduleCheck_of_valid hks),
    runChecked_cons_pass (modeCheck_of_le hmode), runChecked_cons_fail (ivLengthCheck_of_illegal hiv) (by decide)]

/-- Settles O47, by the layout of INFO and the checks in their order. -/
theorem modeInitStartsAnInstance : Obligations.ModeInitStartsAnInstance := by
  refine ⟨spells_of_encode_eq rfl rfl, fun s => ?_, fun s hks hmode hiv => ?_,
    fun s hks => failsWith_of_raiseError (runChecked_without_schedule hks _ _),
    fun s hks hmode => failsWith_of_raiseError (exec_modeInit_unsupported hks (Nat.not_le.mpr hmode)),
    fun s hks hmode h0 hiv => failsWith_of_raiseError (exec_modeInit_iv hks hmode (not_or.mpr ⟨h0, hiv⟩))⟩
  · exact infoWord_fields s
  · obtain ⟨-, -, hinfo, -⟩ :=
      infoWord_fields (complete .none (putTransform (selectedMode s) s.ctrlDir (initialFeedback s) s))
    have hcode := modeCode_selectedMode hmode
    exact ⟨_, exec_modeInit hks hmode hiv, ⟨rfl, rfl, rfl⟩, hinfo.trans hcode, hcode, rfl, rfl, rfl, rfl, rfl, rfl, rfl,
      rfl, putTransform_keepsRegs _ _ _ s, rfl, rfl, rfl⟩

/-! ### A write of the output -/

theorem putOutput_keepsRegs (d : Block) (n : Nat) (fb : Block) (s : State) :
    KeepsRegs outputAndStatus s (complete .none (putOutput d n fb s)) := by
  intro r hr
  cases r with
  | status | dout | fb => cases hr
  | _ => rfl

/-- What PROCESS_BLOCK and FINALIZE leave as it was (R50). -/
theorem putOutput_frame (d : Block) (n : Nat) (fb : Block) (s : State) :
    let t := complete .none (putOutput d n fb s)
    t.ksValid = s.ksValid ∧ t.modeValid = s.modeValid ∧ t.ovr = s.ovr ∧ KeepsRegs outputAndStatus s t ∧
      KeepsHostSide s t :=
  ⟨rfl, rfl, rfl, putOutput_keepsRegs d n fb s, rfl, rfl, rfl⟩

/-! ### PROCESS_BLOCK -/

/-- PROCESS_BLOCK's effect on the block `x`: the output block and the feedback of the mode's chain (R238). -/
def putBlock (x : Block) (s : State) : State := putOutput (modeStep s x).1 16 (modeStep s x).2 s

theorem exec_processBlock {s : State} (hks : s.ksValid = true) (hmv : s.modeValid = true) :
    exec .processBlock s = .next (complete .none (putBlock s.din s)) :=
  runChecked_with_instance hks hmv [] _

/-- Settles O48, by the mode's chaining function. -/
theorem processBlockChainsByMode : Obligations.ProcessBlockChainsByMode := by
  refine ⟨spells_of_encode_eq rfl rfl, fun s hks hmv => ?_,
    fun s h => failsWith_of_raiseError (runChecked_without_instance h _ _)⟩
  refine ⟨_, exec_processBlock hks hmv, ⟨rfl, rfl, rfl⟩, rfl, ?_, ?_, ?_, ?_, ?_, ?_, putOutput_frame _ _ _ s⟩
  all_goals
    intro hmode
    simp only [putBlock, modeStep, complete_dout, complete_fb, putOutput_dout, putOutput_fb, hmode]
  · cases s.dirR <;> exact ⟨rfl, rfl⟩
  · intro hdir; rw [hdir]; exact ⟨rfl, rfl⟩
  · intro hdir; rw [hdir]; exact ⟨rfl, rfl⟩
  · cases s.dirR <;> exact ⟨rfl, rfl⟩
  · exact ⟨rfl, rfl⟩
  · exact ⟨rfl, nextCounter_counter s.fb, rfl, rfl, rfl⟩

/-! ### FINALIZE -/

theorem finalizeEffect_zero (s : State) : finalizeEffect 0 s = putOutput Block.zero 0 s.fb s := rfl

/-- On encrypt the padded chunk goes through the chain as PROCESS_BLOCK's block does (R241). -/
theorem finalizeEffect_encrypt {s : State} {n : Nat} (hn : n ≠ 0) (hdir : s.dirR = .encrypt) :
    finalizeEffect n s = putBlock (padBlock s.din n) s := by
  simp [finalizeEffect, putBlock, hn, hdir]

/-- On decrypt PROCESS_BLOCK's output is cut to its StripLen (R241). -/
theorem finalizeEffect_decrypt {s : State} {n : Nat} (hn : n ≠ 0) (hdir : s.dirR = .decrypt) :
    finalizeEffect n s = putOutput (keepBytes (modeStep s s.din).1 (stripLen (modeStep s s.din).1))
      (stripLen (modeStep s s.din).1) (modeStep s s.din).2 s := by
  simp [finalizeEffect, hn, hdir]

/-- The counts FINALIZE accepts: at most 16, and on decrypt no part of a block (R241; log entry 20). -/
def CountAccepted (n : Nat) (s : State) : Prop := n ≤ 16 ∧ (s.dirR = .encrypt ∨ n = 0 ∨ n = 16)

theorem exec_finalize {s : State} {n : Nat} (hks : s.ksValid = true) (hmv : s.modeValid = true)
    (hn : CountAccepted n s) : exec (.finalize n) s = .next (complete .none (finalizeEffect n s)) := by
  obtain ⟨hsize, hwhole⟩ := hn
  have hsizeCheck : chunkSizeCheck n = .none := if_pos hsize
  have hwholeCheck : chunkWholeCheck n s = .none := if_pos hwhole
  rw [exec, execFinalize, runChecked_with_instance hks hmv, runChecked_cons_pass hsizeCheck,
    runChecked_cons_pass hwholeCheck]
  rfl

theorem exec_finalize_invalid {s : State} {n : Nat} (hks : s.ksValid = true) (hmv : s.modeValid = true)
    (hn : ¬ CountAccepted n s) : exec (.finalize n) s = raiseError .invalidState s := by
  rw [exec, execFinalize, runChecked_with_instance hks hmv]
  by_cases hsize : n ≤ 16
  · have hsizeCheck : chunkSizeCheck n = .none := if_pos hsize
    have hwholeCheck : chunkWholeCheck n s = .invalidState := if_neg fun hwhole => hn ⟨hsize, hwhole⟩
    rw [runChecked_cons_pass hsizeCheck, runChecked_cons_fail hwholeCheck (by decide)]
  · have hsizeCheck : chunkSizeCheck n = .invalidState := if_neg hsize
    rw [runChecked_cons_fail hsizeCheck (by decide)]

/-- The word of FINALIZE is `OP | (n << 16)` (R119). -/
theorem commandWord_count {cnt : Nat} (h : cnt < 32) :
    commandWord (BitVec.ofNat 5 cnt) 0 0x1A = 0x0000001A#32 ||| BitVec.ofNat 32 cnt <<< 16 := by
  interval_cases cnt <;> rfl

theorem spells_finalize {n : Nat} (h : n < 32) :
    Spells (0x0000001A#32 ||| BitVec.ofNat 32 n <<< 16) (.finalize n) :=
  spells_of_encode_eq (by simpa [Instr.wellFormed, Instr.roundFits, Instr.countFits] using h) (commandWord_count h)

/-- OUT_LEN holds every StripLen (R33). -/
theorem toNat_ofNat_stripLen (x : Block) : (BitVec.ofNat 5 (stripLen x)).toNat = stripLen x := by
  have hle := stripLen_le x
  simp only [BitVec.toNat_ofNat]
  omega

/-- Settles O49, by what FINALIZE writes for each count and direction, and its two later checks. -/
theorem finalizePadsOrStripsTheLastChunk : Obligations.FinalizePadsOrStripsTheLastChunk := by
  refine ⟨fun n hn => spells_finalize hn, fun s hks hmv => ?_, fun s n hks hmv h1 h16 hdir => ?_,
    fun s hks hmv hdir => ?_, fun s n h => failsWith_of_raiseError (runChecked_without_instance h _ _),
    fun s n hks hmv hn => ?_, fun s n hks hmv hdir h0 h16 => ?_, fun s hdir hks hmv => ?_⟩
  · have hexec := exec_finalize hks hmv ⟨Nat.zero_le 16, .inr (.inl rfl)⟩
    rw [finalizeEffect_zero] at hexec
    exact ⟨_, hexec, ⟨rfl, rfl, rfl⟩, rfl, rfl, rfl, putOutput_frame _ _ _ s⟩
  · have hexec := exec_finalize hks hmv ⟨h16, .inl hdir⟩
    rw [finalizeEffect_encrypt (by omega) hdir] at hexec
    exact ⟨_, _, hexec, ⟨rfl, rfl, rfl⟩, exec_processBlock hks hmv, rfl, rfl, rfl, putOutput_frame _ _ _ s⟩
  · have hexec := exec_finalize hks hmv ⟨le_rfl, .inr (.inr rfl)⟩
    rw [finalizeEffect_decrypt (by decide) hdir] at hexec
    exact ⟨_, _, hexec, ⟨rfl, rfl, rfl⟩, exec_processBlock hks hmv, toNat_ofNat_stripLen _, rfl,
      fun k hk => blockByte_keepBytes _ _ hk, putOutput_frame _ _ _ s⟩
  · exact failsWith_of_raiseError (exec_finalize_invalid hks hmv fun ⟨hle, _⟩ => by omega)
  · exact failsWith_of_raiseError (exec_finalize_invalid hks hmv fun ⟨_, hwhole⟩ => by simp [hdir, h0, h16] at hwhole)
  · rw [exec_finalize hks hmv ⟨le_rfl, .inl hdir⟩, finalizeEffect_encrypt (by decide) hdir, padBlock_sixteen,
      exec_processBlock hks hmv]

end Sys2Proof
end

section
/-!
PROOFS. Streams of blocks between two matching ends (R242 to R244), and the counter along a CTR stream (R237): one
block's step of the chain is undone at the other end, and leaves the ends matching.
-/
namespace Sys2Proof

open Sys2Proof.Machine

/-! ### One block -/

/-- In every mode the decrypting chain recovers the block and reaches the same feedback (R233 to R237, R179). -/
theorem modeBlock_decrypt_encrypt (ks : Vector Col 60) (nr : Nat) (mode : BlockMode) (fb x : Block) :
    modeBlock ks nr mode .decrypt fb (modeBlock ks nr mode .encrypt fb x).1 =
      (x, (modeBlock ks nr mode .encrypt fb x).2) := by
  cases mode with
  | ecb | cbc => simp [modeBlock, decryptBlock_encryptBlock]
  | cfb | ofb | ctr => simp [modeBlock]

/-- What one end's chain makes of a block, the other end's undoes. -/
theorem MatchingEnds.modeStep_modeStep {s t : State} (h : MatchingEnds s t) (x : Block) :
    modeStep t (modeStep s x).1 = (x, (modeStep s x).2) := by
  obtain ⟨henc, hdec, -, -, -, -, hks, hnr, hmode, hfb⟩ := h
  simp only [modeStep, roundCount, henc, hdec, hks, hnr, hmode, hfb, modeBlock_decrypt_encrypt]

/-! ### A stream -/

/-- The state after PROCESS_BLOCK on a block that the host loaded into DIN (R244). -/
def afterBlock (x : Block) (s : State) : State := complete .none (putBlock x { s with din := x })

theorem processStream_cons {s : State} (hks : s.ksValid = true) (hmv : s.modeValid = true) (x : Block)
    (xs : List Block) : processStream s (x :: xs) =
      (processStream (afterBlock x s) xs).map fun (ys, u) => ((modeStep s x).1 :: ys, u) := by
  have hexec : exec .processBlock { s with din := x } = .next (afterBlock x s) := exec_processBlock hks hmv
  rw [processStream, hexec]
  rfl

/-- A block through both ends leaves them matching. -/
theorem MatchingEnds.afterBlock_afterBlock {s t : State} (h : MatchingEnds s t) (x : Block) :
    MatchingEnds (afterBlock x s) (afterBlock (modeStep s x).1 t) :=
  have hfeedback : (modeStep t (modeStep s x).1).2 = (modeStep s x).2 := by rw [h.modeStep_modeStep]
  { h with sameFeedback := hfeedback }

/-- Settles O53, by induction on the stream. -/
theorem streamsRoundTripInEveryMode : Obligations.StreamsRoundTripInEveryMode := by
  intro s t xs h
  induction xs generalizing s t with
  | nil => exact ⟨[], s, t, rfl, rfl, h.sameFeedback⟩
  | cons x xs ih =>
    obtain ⟨ys, s', t', henc, hdec, hfb⟩ := ih _ _ (h.afterBlock_afterBlock x)
    refine ⟨(modeStep s x).1 :: ys, s', t', ?_, ?_, hfb⟩
    · rw [processStream_cons h.scheduleL h.transformL, henc]
      rfl
    · rw [processStream_cons h.scheduleR h.transformR, hdec, h.modeStep_modeStep]
      rfl

/-! ### The final chunk -/

/-- The host's load of DIN leaves the ends matching. -/
theorem MatchingEnds.loadDin {s t : State} (h : MatchingEnds s t) (y : Block) : MatchingEnds s { t with din := y } :=
  { h with }

/-- FINALIZE 16 of what the encrypting chain made of a block leaves that block, cut to its StripLen. -/
theorem MatchingEnds.finalizeEffect_eq {s t : State} (h : MatchingEnds s t) {x : Block}
    (hdin : t.din = (modeStep s x).1) :
    finalizeEffect 16 t = putOutput (keepBytes x (stripLen x)) (stripLen x) (modeStep s x).2 t := by
  rw [finalizeEffect_decrypt (by decide) h.decrypts, hdin, h.modeStep_modeStep]

/-- Settles O54: the decrypting chain recovers the padded chunk, whose padding is stripped exactly. -/
theorem shortFinalChunkRoundTrips : Obligations.ShortFinalChunkRoundTrips := by
  intro s t n h h1 h15
  have hn : n < 16 := by omega
  have henc := exec_finalize h.scheduleL h.transformL ⟨hn.le, .inl h.encrypts⟩
  rw [finalizeEffect_encrypt (by omega) h.encrypts] at henc
  have hends := h.loadDin (modeStep s (padBlock s.din n)).1
  have hdec := exec_finalize hends.scheduleR hends.transformR ⟨le_rfl, .inr (.inr rfl)⟩
  rw [hends.finalizeEffect_eq rfl, stripLen_padBlock s.din hn] at hdec
  refine ⟨_, _, henc, hdec, rfl, ?_, rfl, fun k hk => ?_, fun k hk hk16 => ?_⟩
  · simp only [complete_outLen, putOutput_outLen, BitVec.toNat_ofNat]
    omega
  · exact (blockByte_keepBytes _ _ (by omega)).trans ((if_pos hk).trans (blockByte_padBlock_of_lt s.din hn.le hk))
  · exact (blockByte_keepBytes _ _ hk16).trans (if_neg (by omega))

/-! ### The counter -/

/-- In CTR a block advances the counter, whatever the direction (R237). -/
theorem afterBlock_fb_of_ctr {s : State} (h : s.modeR = .ctr) (x : Block) :
    (afterBlock x s).fb = nextCounter s.fb := by
  simp [afterBlock, putBlock, modeStep, modeBlock, h]

/-- Settles O55, by induction on the stream. -/
theorem counterAdvancesOncePerBlock : Obligations.CounterAdvancesOncePerBlock := by
  intro s xs hks hmv hmode
  induction xs generalizing s with
  | nil => exact ⟨[], s, rfl, by simp, rfl, rfl, rfl⟩
  | cons x xs ih =>
    obtain ⟨ys, s', hrun, hctr, h0, h1, h2⟩ := ih (afterBlock x s) hks hmv hmode
    rw [afterBlock_fb_of_ctr hmode] at hctr h0 h1 h2
    refine ⟨(modeStep s x).1 :: ys, s', ?_, ?_, h0, h1, h2⟩
    · rw [processStream_cons hks hmv, hrun]
      rfl
    · rw [hctr, nextCounter_counter, List.length_cons, BitVec.ofNat_add, add_assoc, add_comm (1 : Word)]
      rfl

end Sys2Proof
end

section
/-!
PROOFS. The control commands NOP and ZEROIZE: which registers ZEROIZE clears, which it keeps, and the whole state it
leaves as a function of what it keeps.
-/
namespace Sys2Proof

open Sys2Proof.Machine

/-! ### The registers after ZEROIZE -/

@[simp] theorem le32_zero : le32 Col.zero = 0 := rfl

@[simp] theorem blockCol_zero (k : Fin 4) : blockCol Block.zero k = Col.zero := by
  fin_cases k <;> rfl

/-- Every register that can hold data is cleared (R281). -/
theorem readReg_clearData_of_data {r : Reg} (h : dataAndStatus r = true) (hstatus : r ≠ .status) (s : State) :
    readReg (clearData s) r = 0 := by
  cases r with
  | ctrl | cmd | keyLen | ivLen => cases h
  | status => exact absurd rfl hstatus
  | info => simp [readReg, infoWord, dirBit, modeCode]
  | _ => simp [readReg]

/-- CTRL, KEY_LEN and IV_LEN are kept, and CMD reads 0 as ever (R281). -/
theorem readReg_clearData_of_not_data {r : Reg} (h : dataAndStatus r = false) (s : State) :
    readReg (clearData s) r = readReg s r := by
  cases r with
  | ctrl | cmd | keyLen | ivLen => rfl
  | _ => cases h

/-- With OVR = 0 STATUS shows DONE alone (R281). -/
theorem statusWord_complete_clearData {s : State} (h : s.ovr = false) :
    statusWord (complete .none (clearData s)) = 0x00000010 := by
  simp [statusWord, errCode, h]

/-- Settles O26: the effect clears the data registers and no others, and the completion writes STATUS alone. -/
theorem zeroizeClearsEveryDataRegister : Obligations.ZeroizeClearsEveryDataRegister := by
  refine ⟨spells_of_encode_eq rfl rfl, fun s => ⟨complete .none (clearData s), rfl, ⟨rfl, rfl, rfl⟩,
    fun r hr hstatus => ?_, fun r hr => ?_, rfl, rfl, rfl, rfl, ⟨rfl, rfl, rfl⟩, statusWord_complete_clearData⟩⟩
  · rw [readReg_complete hstatus, readReg_clearData_of_data hr hstatus]
  · have hstatus : r ≠ .status := by rintro rfl; cases hr
    rw [readReg_complete hstatus, readReg_clearData_of_not_data hr]

/-! ### What ZEROIZE forgets -/

/-- The state after ZEROIZE, written from what it keeps of `s`: everything else is as after reset, but for DONE and
the free value in PEND, which the count of draws picks (R281; log entry 2). -/
def zeroized (s : State) : State :=
  { State.reset with
    ctrlMode := s.ctrlMode
    ctrlDir := s.ctrlDir
    ctrlKsz := s.ctrlKsz
    ctrlIe := s.ctrlIe
    keyLen := s.keyLen
    ivLen := s.ivLen
    ovr := s.ovr
    doneFlag := true
    pend := Config.undefinedPend s.draws
    delay := s.delay
    host := s.host
    response := s.response
    draws := s.draws + 1 }

theorem exec_zeroize (s : State) : exec .zeroize s = .next (zeroized s) := rfl

/-- CTRL as read determines every field of CTRL (R32). -/
theorem ctrl_fields_eq_of_ctrlWord_eq {s s' : State} (h : ctrlWord s = ctrlWord s') :
    s.ctrlMode = s'.ctrlMode ∧ s.ctrlDir = s'.ctrlDir ∧ s.ctrlKsz = s'.ctrlKsz ∧ s.ctrlIe = s'.ctrlIe := by
  obtain ⟨hmode, hdir, hksz, hie⟩ := ctrlWord_fields s
  obtain ⟨hmode', hdir', hksz', hie'⟩ := ctrlWord_fields s'
  rw [h] at hmode hdir hksz hie
  have hdecrypt : s.ctrlDir = .decrypt ↔ s'.ctrlDir = .decrypt := hdir.symm.trans hdir'
  refine ⟨hmode.symm.trans hmode', ?_, hksz.symm.trans hksz', hie.symm.trans hie'⟩
  cases hd : s.ctrlDir <;> cases hd' : s'.ctrlDir <;> simp [hd, hd'] at hdecrypt ⊢

/-- Settles O27: the state after ZEROIZE is a function of what the two machines share. -/
theorem zeroizeForgetsAllKeyMaterial : Obligations.ZeroizeForgetsAllKeyMaterial := by
  intro s s' hctrl hkeyLen hivLen hovr hdelay hhost hresponse hdraws
  obtain ⟨hmode, hdir, hksz, hie⟩ := ctrl_fields_eq_of_ctrlWord_eq hctrl
  simp only [exec_zeroize, zeroized, hmode, hdir, hksz, hie, hkeyLen, hivLen, hovr, hdelay, hhost, hresponse, hdraws]

/-! ### NOP -/

/-- Settles O25: NOP has no effect, so its completion leaves what one with an error leaves, here with code 0. -/
theorem nopOnlyCompletes : Obligations.NopOnlyCompletes :=
  ⟨spells_of_encode_eq rfl rfl, fun _ => failsWith_of_raiseError rfl⟩

end Sys2Proof
end

section
/-!
PROOFS. How commands and steps end, and what the host's turn leaves of the flags: completion and its errors, the flag
DONE, and the interrupt line.
-/
namespace Sys2Proof

open Sys2Proof.Machine

/-! ### The completion step -/

/-- Everything a completion step can do: complete with no error after a command's effect, or with an error and no effect
at all, an illegal word included (R116, R301, R341). -/
theorem step_completion_cases {s : State} (hdue : completionDue s = true) :
    ∃ code e, step s = .next (complete code e) ∧
      ((code = .none ∧ ∃ i, Effect i s e) ∨ (code ≠ .none ∧ e = s)) := by
  obtain ⟨-, i, -, hstep⟩ | ⟨-, why, -, hstep⟩ | ⟨hnot, -⟩ := step_cases s
  · obtain ⟨code, e, hexec, hend⟩ := exec_cases i s
    exact ⟨code, e, hstep.trans hexec, hend.imp_left fun ⟨hcode, he⟩ => ⟨hcode, i, he⟩⟩
  · exact ⟨.illegalCommand, s, hstep, .inr ⟨by decide, rfl⟩⟩
  · exact absurd (hdue.symm.trans hnot) (by decide)

/-- Settles O9: a step is a completion, which has a next state, or the host's turn, which is one. -/
theorem everyStepHasANextState : Obligations.EveryStepHasANextState := by
  intro s
  cases hdue : completionDue s with
  | true =>
    obtain ⟨code, e, hstep, -⟩ := step_completion_cases hdue
    exact ⟨_, hstep⟩
  | false => exact ⟨_, step_eq_hostTurn hdue⟩

/-! ### The host's turn -/

/-- The state with other values in the fields in which the host's side is kept: its list, the slot count, the bus's
last answer and the count of draws. -/
def withHostSide (l : List HostEvent) (d : Nat) (a : BusResponse) (n : Nat) (s : State) : State :=
  { s with host := l, delay := d, response := a, draws := n }

@[simp] theorem readReg_withHostSide (l : List HostEvent) (d : Nat) (a : BusResponse) (n : Nat) (s : State) (r : Reg) :
    readReg (withHostSide l d a n s) r = readReg s r := by
  cases r <;> rfl

/-- Everything the host's turn can do: the reset event; a register write of the host assembly, with BUSY = 0; a dropped
write, with BUSY = 1; or nothing beyond the host's side (R84 to R89, R340). -/
theorem hostTurn_effect_cases (s : State) :
    (∃ l, s.host = .reset :: l ∧ hostTurn s = hardReset l s) ∨
    (s.busy = false ∧ ∃ r v l, s.host = asmWr r v :: l ∧
      hostTurn s = respond .ack (writeReg r v (nextSlot l s))) ∨
    (s.busy = true ∧ ∃ l d a n, hostTurn s = withHostSide l d a n (overrun s)) ∨
    ∃ l d a n, hostTurn s = withHostSide l d a n s := by
  match hh : s.host with
  | [] => exact .inr (.inr (.inr ⟨_, _, _, _, hostTurn_nil hh⟩))
  | .read off w :: l =>
    rw [hostTurn_read hh]
    obtain ⟨a, h | h⟩ := busRead_cases off w (nextSlot l s) <;> exact .inr (.inr (.inr ⟨_, _, _, _, h⟩))
  | .write off w v :: l =>
    rw [hostTurn_write hh]
    obtain ⟨a, h, -⟩ | ⟨hb, -, h⟩ | ⟨hb, hserved, r, hr, h⟩ := busWrite_cases off w v (nextSlot l s)
    · exact .inr (.inr (.inr ⟨_, _, _, _, h⟩))
    · exact .inr (.inr (.inl ⟨hb, _, _, _, _, h⟩))
    · obtain ⟨rfl, -⟩ := (served_iff w off).mp hserved
      have hev : HostEvent.write off .word v = asmWr r v := by simp [asmWr, (regAt_eq_some off r).mp hr]
      exact .inr (.inl ⟨hb, r, v, l, by rw [hev], h⟩)
  | .wait :: l => exact .inr (.inr (.inr ⟨_, _, _, _, hostTurn_wait hh⟩))
  | .reset :: l => exact .inl ⟨l, rfl, hostTurn_reset hh⟩
  | .idle :: l => exact .inr (.inr (.inr ⟨_, _, _, _, hostTurn_idle hh⟩))

/-- With BUSY = 1 and no reset the host's turn at most sets OVR (R86, R87). -/
theorem hostTurn_busy_cases {s : State} (hb : s.busy = true) (hhead : s.host.head? ≠ some .reset) :
    (∃ l d a n, hostTurn s = withHostSide l d a n (overrun s)) ∨
      ∃ l d a n, hostTurn s = withHostSide l d a n s := by
  obtain ⟨l, hh, -⟩ | ⟨hidle, -⟩ | ⟨-, hdrop⟩ | hquiet := hostTurn_effect_cases s
  · exact absurd (by simp [hh]) hhead
  · exact absurd (hb.symm.trans hidle) (by decide)
  · exact .inl hdrop
  · exact .inr hquiet

/-! ### DONE -/

/-- A write of a register but STATUS leaves DONE (R33). -/
theorem writeReg_doneFlag {r : Reg} (h : r ≠ .status) (v : Word) (s : State) :
    (writeReg r v s).doneFlag = s.doneFlag := by
  cases r with
  | status => exact absurd rfl h
  | _ => rfl

/-- The host's turn leaves DONE, or clears it: by a reset, or by a write of 1 to bit 4 of STATUS (R33, R304). -/
theorem hostTurn_doneFlag_cases (s : State) :
    (hostTurn s).doneFlag = s.doneFlag ∨
    (hostTurn s).doneFlag = false ∧
      (s.host.head? = some .reset ∨ ∃ v rest, s.host = asmWr .status v :: rest ∧ v.getLsbD 4 = true) := by
  obtain ⟨l, hh, h⟩ | ⟨-, r, v, l, hh, h⟩ | ⟨-, l, d, a, n, h⟩ | ⟨l, d, a, n, h⟩ :=
    hostTurn_effect_cases s <;> rw [h]
  · exact .inr ⟨rfl, .inl (by simp [hh])⟩
  · by_cases hr : r = .status
    · subst hr
      have hdone : (respond .ack (writeReg .status v (nextSlot l s))).doneFlag = (s.doneFlag && !v.getLsbD 4) := rfl
      rw [hdone]
      cases hv : v.getLsbD 4 with
      | true => exact .inr ⟨Bool.and_false _, .inr ⟨v, l, hh, hv⟩⟩
      | false => exact .inl (Bool.and_true _)
    · exact .inl (writeReg_doneFlag hr v _)
  · exact .inl rfl
  · exact .inl rfl

/-- Settles O21, by how a command ends and what the host's turn does to DONE. -/
theorem everyCommandCompletes : Obligations.EveryCommandCompletes := by
  refine ⟨fun i s => ?_, fun s t hstep hdone => ?_, fun s t hstep hdone hdue => ?_⟩
  · obtain ⟨code, e, hexec, ⟨-, he⟩ | ⟨-, rfl⟩⟩ := exec_cases i s
    · obtain ⟨hovr, -, -, -, -, -, -, hhost, hresponse, hdelay, -⟩ := he.untouched
      exact ⟨_, hexec, rfl, rfl, hovr, hhost, hresponse, hdelay⟩
    · exact ⟨_, hexec, rfl, rfl, rfl, rfl, rfl, rfl⟩
  · cases hdue : completionDue s with
    | true =>
      obtain ⟨code, e, hcomplete, -⟩ := step_completion_cases hdue
      cases hstep.symm.trans hcomplete
      exact .inl rfl
    | false =>
      cases hstep.symm.trans (step_eq_hostTurn hdue)
      obtain hkeep | ⟨-, hcause⟩ := hostTurn_doneFlag_cases s
      · exact .inl (hkeep.trans hdone)
      · exact .inr hcause
  · cases hstep.symm.trans (step_eq_hostTurn hdue)
    obtain hkeep | ⟨hclear, -⟩ := hostTurn_doneFlag_cases s
    · exact hkeep.trans hdone
    · exact hclear

/-! ### Errors without effect -/

/-- A completion by itself writes only ERR, DONE and BUSY (R301, R304). -/
theorem complete_frame (code : ErrCode) (s : State) :
    KeepsRegs statusOnly s (complete code s) ∧ KeepsFlags s (complete code s) ∧
      (complete code s).doneFlag = true ∧ (complete code s).busy = false :=
  ⟨fun _ hr => readReg_complete (by rintro rfl; cases hr) code s, ⟨rfl, rfl, rfl, rfl⟩, rfl, rfl⟩

/-- Settles O22: a command or word that ends in an error has no effect, and while BUSY = 1 the host sets at most OVR. -/
theorem erroringCommandWritesNothingElse : Obligations.ErroringCommandWritesNothingElse := by
  refine ⟨fun i s => ?_, fun s hdue => ?_, fun s hb hdue hhead => ?_⟩
  · obtain ⟨code, e, hexec, ⟨rfl, -⟩ | ⟨-, rfl⟩⟩ := exec_cases i s
    · exact ⟨_, hexec, fun herr => absurd rfl herr⟩
    · exact ⟨_, hexec, fun _ => complete_frame code e⟩
  · obtain ⟨code, e, hstep, ⟨rfl, -⟩ | ⟨-, rfl⟩⟩ := step_completion_cases hdue
    · exact ⟨_, hstep, fun herr => absurd rfl herr⟩
    · exact ⟨_, hstep, fun _ => complete_frame code e⟩
  · refine ⟨_, step_eq_hostTurn hdue, ?_⟩
    obtain ⟨l, d, a, n, h⟩ | ⟨l, d, a, n, h⟩ := hostTurn_busy_cases hb hhead <;> rw [h]
    · refine ⟨fun r hr => ?_, hb, rfl, rfl, rfl, rfl, rfl, rfl⟩
      rw [readReg_withHostSide, readReg_overrun (by rintro rfl; cases hr)]
    · exact ⟨fun r _ => readReg_withHostSide l d a n s r, hb, rfl, rfl, rfl, rfl, rfl, rfl⟩

/-! ### The first failing check -/

/-- A check that fails exactly under `q` is reported under `q`, and otherwise the later checks decide (R302). -/
theorem firstError_check_cons {p q : Prop} [Decidable p] [Decidable q] {code : ErrCode} (hq : q ↔ ¬ p)
    (hcode : code ≠ .none) (rest : List ErrCode) :
    firstError ((if p then ErrCode.none else code) :: rest) = if q then code else firstError rest := by
  by_cases hp : p <;> simp [hq, hp, hcode]

section
variable (s : State) (rest : List ErrCode)

theorem firstError_schedule : firstError (scheduleCheck s :: rest) =
    if s.ksValid = false then .uninitialized else firstError rest :=
  firstError_check_cons (by simp) (by decide) rest

theorem firstError_transform : firstError (transformCheck s :: rest) =
    if s.modeValid = false then .uninitialized else firstError rest :=
  firstError_check_cons (by simp) (by decide) rest

/-- A missing schedule and a missing instance give one code (R302). -/
theorem firstError_instance : firstError (scheduleCheck s :: transformCheck s :: rest) =
    if s.ksValid = false ∨ s.modeValid = false then .uninitialized else firstError rest := by
  rw [firstError_schedule, firstError_transform, ite_or]

theorem firstError_round (rnd : Nat) : firstError (roundCheck rnd s :: rest) =
    if s.nr.toNat < rnd then .invalidRound else firstError rest :=
  firstError_check_cons Nat.not_le.symm (by decide) rest

theorem firstError_keyLength : firstError (keyLengthCheck s :: rest) =
    if s.ctrlKsz = 3 ∨ s.keyLen.toNat ≠ 16 + 8 * s.ctrlKsz.toNat then .invalidKeyLength else firstError rest :=
  firstError_check_cons (by rw [not_and_or, not_not]; rfl) (by decide) rest

theorem firstError_mode : firstError (modeCheck s :: rest) =
    if 5 ≤ s.ctrlMode.toNat then .unsupportedMode else firstError rest :=
  firstError_check_cons (p := s.ctrlMode.toNat ≤ 4) Nat.not_le.symm (by decide) rest

theorem firstError_ivLength : firstError (ivLengthCheck s :: rest) =
    if s.ctrlMode ≠ 0 ∧ s.ivLen ≠ 16 then .invalidIvLength else firstError rest :=
  firstError_check_cons not_or.symm (by decide) rest

theorem firstError_chunkSize (n : Nat) : firstError (chunkSizeCheck n :: rest) =
    if 16 < n then .invalidState else firstError rest :=
  firstError_check_cons Nat.not_le.symm (by decide) rest

theorem firstError_chunkWhole (n : Nat) : firstError (chunkWholeCheck n s :: rest) =
    if s.dirR = .decrypt ∧ n ≠ 0 ∧ n ≠ 16 then .invalidState else firstError rest :=
  firstError_check_cons (by cases s.dirR <;> simp) (by decide) rest

/-- FINALIZE's two checks of its count give one code (R241; log entry 20). -/
theorem firstError_chunk (n : Nat) : firstError (chunkSizeCheck n :: chunkWholeCheck n s :: rest) =
    if 16 < n ∨ (s.dirR = .decrypt ∧ n ≠ 0 ∧ n ≠ 16) then .invalidState else firstError rest := by
  rw [firstError_chunkSize, firstError_chunkWhole, ite_or]

/-- A command with a round index reports a missing schedule, then a round index above NR (R176, R302). -/
theorem firstError_keyedRound (rnd : Nat) : firstError [scheduleCheck s, roundCheck rnd s] =
    if s.ksValid = false then .uninitialized else if s.nr.toNat < rnd then .invalidRound else .none := by
  rw [firstError_schedule, firstError_round, firstError_nil]

end

/-- A command with checks reports the first that fails (R302). -/
theorem exec_err_of_runChecked {i : Instr} {s effect : State} {checks : List ErrCode} {code : ErrCode}
    (hexec : exec i s = runChecked checks effect s) (hcode : firstError checks = code) :
    ∃ t, exec i s = .next t ∧ t.err = code :=
  ⟨_, hexec.trans (runChecked_eq checks effect s), hcode⟩

/-- Settles O23, by the checks of each command in their order. -/
theorem firstFailingCheckIsReported : Obligations.FirstFailingCheckIsReported := by
  refine ⟨fun s => ?_, fun i s => ?_⟩
  · rw [readReg, statusWord_err]
    cases s.err <;> rfl
  · cases i with
    | addRoundKey rnd | encRound rnd | decRound rnd => exact exec_err_of_runChecked rfl (firstError_keyedRound s rnd)
    | encryptBlock | decryptBlock => exact exec_err_of_runChecked rfl (firstError_schedule s [])
    | keyExpand => exact exec_err_of_runChecked rfl (firstError_keyLength s [])
    | modeInit =>
      refine exec_err_of_runChecked rfl ?_
      rw [firstError_schedule, firstError_mode, firstError_ivLength, firstError_nil]
    | processBlock => exact exec_err_of_runChecked rfl (firstError_instance s [])
    | finalize n =>
      refine exec_err_of_runChecked rfl ?_
      rw [firstError_instance, firstError_chunk, firstError_nil]
    | _ => exact ⟨_, rfl, rfl⟩

/-! ### The interrupt line -/

/-- The line is bit 8 of CTRL and bit 4 of STATUS as read (R305). -/
theorem irq_eq_register_bits (s : State) :
    irq s = ((readReg s .ctrl).getLsbD 8 && (readReg s .status).getLsbD 4) := by
  obtain ⟨-, -, -, hie⟩ := ctrlWord_fields s
  obtain ⟨-, -, -, hdone⟩ := statusWord_flags s
  rw [readReg, readReg, hie, hdone, irq]

/-- Every completion asserts the line exactly when IE = 1 (R304, R305). -/
theorem irq_complete (code : ErrCode) (s : State) : irq (complete code s) = s.ctrlIe := Bool.and_true _

/-- Settles O19, by what completions and the host's turn do to IE and DONE. -/
theorem interruptLineFollowsEnableAndDone : Obligations.InterruptLineFollowsEnableAndDone := by
  refine ⟨irq_eq_register_bits, fun s hdue => ?_, fun s v rest hb hh => ?_, fun s v rest hb hh => ?_,
    fun s off v rest hb hd hh => ?_, rfl⟩
  · obtain ⟨code, e, hstep, hend⟩ := step_completion_cases hdue
    refine ⟨_, hstep, (irq_complete code e).trans ?_⟩
    obtain ⟨-, i, he⟩ | ⟨-, rfl⟩ := hend
    · obtain ⟨-, -, -, -, hie, -⟩ := he.untouched
      exact hie
    · rfl
  · exact ⟨_, step_asmWr hb hh, (Bool.and_assoc _ _ _).symm⟩
  · exact ⟨_, step_asmWr hb hh, rfl⟩
  · refine ⟨_, step_eq_hostTurn (completionDue_eq_false_of_delay hd), ?_⟩
    obtain ⟨l, d, a, n, h⟩ | ⟨l, d, a, n, h⟩ := hostTurn_busy_cases hb (by simp [hh]) <;> rw [h] <;> rfl

end Sys2Proof
end

section
/-!
PROOFS. Reset, issue, completion and the BUSY hazard: what a step is, how a command in flight ends, and that a host
whose program has the canonical form loses no write.
-/
namespace Sys2Proof

open Sys2Proof.Machine

/-! ### Flags and slots that an access keeps -/

@[simp] theorem busRead_busy (off : BitVec 12) (width : AccessWidth) (s : State) :
    (busRead off width s).busy = s.busy := by
  obtain ⟨a, h | h⟩ := busRead_cases off width s <;> simp [h]

@[simp] theorem busRead_ovr (off : BitVec 12) (width : AccessWidth) (s : State) :
    (busRead off width s).ovr = s.ovr := by
  obtain ⟨a, h | h⟩ := busRead_cases off width s <;> simp [h]

@[simp] theorem busRead_delay (off : BitVec 12) (width : AccessWidth) (s : State) :
    (busRead off width s).delay = s.delay := by
  obtain ⟨a, h | h⟩ := busRead_cases off width s <;> simp [h]

/-- Only a write of CMD sets BUSY (R341). -/
theorem writeReg_busy {r : Reg} (hc : r ≠ .cmd) (v : Word) (s : State) : (writeReg r v s).busy = s.busy := by
  cases r with
  | cmd => exact absurd rfl hc
  | _ => rfl

/-- No write of a register sets OVR; one of STATUS may clear it (R33). -/
theorem writeReg_ovr_of_clear {s : State} (h : s.ovr = false) (r : Reg) (v : Word) :
    (writeReg r v s).ovr = false := by
  cases r with
  | status => simp [writeReg, h]
  | _ => exact h

/-- A bus write with BUSY = 0 sets no OVR, and sets BUSY only as a served write of CMD (R86, R341). -/
theorem busWrite_of_idle {s : State} (hb : s.busy = false) (hovr : s.ovr = false) (off : BitVec 12)
    (width : AccessWidth) (v : Word) :
    (busWrite off width v s).ovr = false ∧
      ((busWrite off width v s).busy = true → issuesCommand (.write off width v) = true) := by
  obtain ⟨a, h, -⟩ | ⟨hbusy, -⟩ | ⟨-, hserved, r, hr, h⟩ := busWrite_cases off width v s
  · simp [h, hb, hovr]
  · exact absurd (hb.symm.trans hbusy) (by decide)
  · rw [h]
    refine ⟨writeReg_ovr_of_clear hovr r v, fun hset => ?_⟩
    by_cases hc : r = .cmd
    · subst hc
      simp [issuesCommand, hserved, (regAt_eq_some off .cmd).mp hr]
    · exact absurd ((writeReg_busy hc v s).symm.trans hset) (by simp [hb])

/-- A bus write with BUSY = 1 takes no further slot of the latency: it is dropped or refused (R84, R86). -/
theorem busWrite_delay_of_busy {s : State} (hb : s.busy = true) (off : BitVec 12) (width : AccessWidth) (v : Word) :
    (busWrite off width v s).delay = s.delay := by
  obtain ⟨a, h, -⟩ | ⟨-, -, h⟩ | ⟨hidle, -⟩ := busWrite_cases off width v s
  · simp [h]
  · simp [h, writeBusy]
  · exact absurd (hb.symm.trans hidle) (by decide)

/-! ### The BUSY hazard -/

/-- A canonical program has a `wait` after a command at its head, and goes on in canonical form (R119). -/
theorem canonicalProgram_cons (ev : HostEvent) (l : List HostEvent) :
    canonicalProgram (ev :: l) = true ↔
      (issuesCommand ev = true → l.head? = some .wait) ∧ canonicalProgram l = true := by
  simp [canonicalProgram, imp_iff_not_or]

/-- With BUSY = 0 the host's turn takes the oldest event off the list, sets no OVR, and sets BUSY only for an event
that issues a command. -/
theorem hostTurn_of_idle {s : State} {ev : HostEvent} {l : List HostEvent} (hb : s.busy = false)
    (hovr : s.ovr = false) (hh : s.host = ev :: l) :
    (hostTurn s).host = l ∧ (hostTurn s).ovr = false ∧
      ((hostTurn s).busy = true → issuesCommand ev = true) := by
  cases ev with
  | read off w => simp [hostTurn_read hh, hb, hovr]
  | write off w v =>
    rw [hostTurn_write hh]
    exact ⟨busWrite_host off w v _, busWrite_of_idle (s := nextSlot l s) hb hovr off w v⟩
  | wait => simp [hostTurn_wait hh, hb, hovr]
  | reset =>
    rw [hostTurn_reset hh]
    exact ⟨rfl, rfl, fun hset => absurd hset Bool.false_ne_true⟩
  | idle => simp [hostTurn_idle hh, hb, hovr]

/-- A completion ends the hazard: it leaves the host's list and OVR, and BUSY = 0 (R341). -/
theorem respectsBusy_complete {s e : State} (h : RespectsBusy s) (hhost : e.host = s.host) (code : ErrCode) :
    RespectsBusy (complete code e) := by
  obtain ⟨hcanonical, -⟩ := h
  exact ⟨(congrArg canonicalProgram hhost).trans hcanonical, fun hb => absurd hb Bool.false_ne_true⟩

/-- The host's turn of a program that respects the BUSY rule: with BUSY = 1 it polls STATUS and waits on, and with
BUSY = 0 it issues a command only where a `wait` comes next. -/
theorem respectsBusy_hostTurn {s : State} (h : RespectsBusy s) (hovr : s.ovr = false) :
    RespectsBusy (hostTurn s) ∧ (hostTurn s).ovr = false := by
  obtain ⟨hcanonical, hwait⟩ := h
  cases hb : s.busy with
  | true =>
    obtain ⟨l, hl⟩ := List.head?_eq_some_iff.mp (hwait hb)
    rw [hostTurn_wait hl, hb]
    exact ⟨⟨hl ▸ hcanonical, fun _ => rfl⟩, hovr⟩
  | false =>
    match hh : s.host with
    | [] =>
      rw [hostTurn_nil hh]
      exact ⟨⟨rfl, fun hset => absurd (hb.symm.trans hset) Bool.false_ne_true⟩, hovr⟩
    | ev :: l =>
      obtain ⟨hhost, hclear, hissue⟩ := hostTurn_of_idle hb hovr hh
      obtain ⟨hnext, hrest⟩ := (canonicalProgram_cons ev l).mp (hh ▸ hcanonical)
      exact ⟨⟨hhost ▸ hrest, fun hset => hhost ▸ hnext (hissue hset)⟩, hclear⟩

/-- Settles O59: a completion leaves the host's list and OVR, and the host's turn keeps the BUSY rule. -/
theorem canonicalProgramsLoseNoWrite : Obligations.CanonicalProgramsLoseNoWrite := by
  intro s t hrespects hovr hstep
  cases hdue : completionDue s with
  | true =>
    obtain ⟨code, e, hcomplete, hend⟩ := step_completion_cases hdue
    cases hstep.symm.trans hcomplete
    obtain ⟨-, i, he⟩ | ⟨-, rfl⟩ := hend
    · obtain ⟨heovr, -, -, -, -, -, -, hehost, -⟩ := he.untouched
      exact ⟨respectsBusy_complete hrespects hehost code, heovr.trans hovr⟩
    · exact ⟨respectsBusy_complete hrespects rfl code, hovr⟩
  | false =>
    cases hstep.symm.trans (step_eq_hostTurn hdue)
    exact respectsBusy_hostTurn hrespects hovr

/-! ### No command hangs -/

/-- With BUSY = 1 and no reset the host's turn passes one slot of the latency (R11; log entry 4). -/
theorem hostTurn_delay_of_busy {s : State} (hb : s.busy = true) (hhead : s.host.head? ≠ some .reset) :
    (hostTurn s).delay = s.delay - 1 := by
  match hh : s.host with
  | [] => rw [hostTurn_nil hh, nextSlot_delay]
  | .read off w :: l => rw [hostTurn_read hh, busRead_delay, nextSlot_delay]
  | .write off w v :: l => rw [hostTurn_write hh, busWrite_delay_of_busy (s := nextSlot l s) hb, nextSlot_delay]
  | .wait :: l => rw [hostTurn_wait hh, respond_delay, nextSlot_delay]
  | .reset :: l => exact absurd (by rw [hh]; rfl) hhead
  | .idle :: l => rw [hostTurn_idle hh, nextSlot_delay]

/-- A step with BUSY = 1 ends the command, by its completion or a reset, or leaves it in flight with one slot less. -/
theorem step_of_busy {s : State} (hb : s.busy = true) :
    ∃ t, step s = .next t ∧ (t.busy = false ∨ (t.busy = true ∧ s.delay = t.delay + 1)) := by
  cases hdue : completionDue s with
  | true =>
    obtain ⟨code, e, hstep, -⟩ := step_completion_cases hdue
    exact ⟨_, hstep, .inl rfl⟩
  | false =>
    refine ⟨_, step_eq_hostTurn hdue, ?_⟩
    by_cases hhead : s.host.head? = some .reset
    · obtain ⟨l, hl⟩ := List.head?_eq_some_iff.mp hhead
      exact .inl (by rw [hostTurn_reset hl]; rfl)
    · have hslots : s.delay ≠ 0 := fun h0 =>
        absurd (hdue.symm.trans ((completionDue_iff s).mpr ⟨hb, h0, hhead⟩)) Bool.false_ne_true
      have hdelay := hostTurn_delay_of_busy hb hhead
      have hstill : (hostTurn s).busy = true := by
        obtain ⟨l, d, a, n, h⟩ | ⟨l, d, a, n, h⟩ := hostTurn_busy_cases hb hhead <;> rw [h] <;> exact hb
      exact .inr ⟨hstill, by omega⟩

/-- Settles O8, by induction on the slots left: the first step ends the command or leaves one slot less. -/
theorem commandInFlightEnds : Obligations.CommandInFlightEnds := by
  intro s hb
  induction hd : s.delay using Nat.strong_induction_on generalizing s with
  | _ d ih =>
    obtain ⟨t, hstep, hend | ⟨hstill, hslot⟩⟩ := step_of_busy hb
    · exact ⟨1, t, by omega, core_run_succ hstep 0, hend⟩
    · obtain ⟨k, u, hk, hrun, hend⟩ := ih t.delay (by omega) t hstill rfl
      exact ⟨k + 1, u, by omega, (core_run_succ hstep k).trans hrun, hend⟩

/-! ### The completion step -/

theorem completionDue_eq_false_iff (s : State) :
    completionDue s = false ↔ s.busy = false ∨ s.delay ≠ 0 ∨ s.host.head? = some .reset := by
  rw [← Bool.not_eq_true, completionDue_iff]
  simp only [not_and_or, Bool.not_eq_true, not_not, ne_eq]

/-- A completion step of a word that decodes to a command is that command (R115, R341). -/
theorem step_of_command {s : State} {i : Instr} (hdue : completionDue s = true)
    (hdec : decode s.pend = .command i) : step s = exec i s := by
  obtain ⟨-, j, hj, hstep⟩ | ⟨-, why, hwhy, -⟩ | ⟨hnot, -⟩ := step_cases s
  · cases hdec.symm.trans hj
    exact hstep
  · cases hdec.symm.trans hwhy
  · cases hdue.symm.trans hnot

/-- A placed command word is due at once: no slot is left, and a reset that stood first is dropped (log entry 16). -/
theorem completionDue_withFetchWord (s : State) (nbits w : Nat) : completionDue (s.withFetchWord nbits w) = true := by
  refine (completionDue_iff _).mpr ⟨rfl, rfl, fun hhead => ?_⟩
  have hnot := List.head?_dropWhile_not (· == HostEvent.reset) s.host
  rw [show s.host.dropWhile (· == .reset) = (s.withFetchWord nbits w).host from rfl, hhead] at hnot
  exact absurd hnot (by decide)

theorem withFetchWord_pend (s : State) (c : Word) : (s.withFetchWord 32 c.toNat).pend = c := by
  rw [State.withFetchWord, Nat.mod_eq_of_lt c.isLt, BitVec.ofNat_toNat, BitVec.setWidth_eq]

/-- Settles O6: a step is a completion, of the command or of the illegal word, or the host's turn. -/
theorem stepRunsThePendingCommand : Obligations.StepRunsThePendingCommand := by
  refine ⟨fun s i hb hd hhead hdec => ?_, fun s why hb hd hhead hdec => ?_, fun s hnot => ?_, fun s c i hdec => ?_⟩
  · exact step_of_command ((completionDue_iff s).mpr ⟨hb, hd, hhead⟩) hdec
  · exact step_of_illegal ((completionDue_iff s).mpr ⟨hb, hd, hhead⟩) hdec
  · exact step_eq_hostTurn ((completionDue_eq_false_iff s).mpr hnot)
  · exact step_of_command (completionDue_withFetchWord s 32 c.toNat) (by rw [withFetchWord_pend, hdec])

/-! ### Issue -/

/-- An issued command has at least one slot left (R11; log entry 4). -/
theorem one_le_latency (c : Word) (n : Nat) : 1 ≤ Config.latency c n := by
  simp [Config.latency]

/-- Settles O7: the write of CMD is an issue, which no register but STATUS shows. -/
theorem cmdWriteIssuesTheCommand : Obligations.CmdWriteIssuesTheCommand := by
  intro s c rest hb hh
  have hcmd : s.host = asmWr .cmd c :: rest := hh
  refine ⟨_, step_asmWr hb hcmd, rfl, rfl, one_le_latency c _, rfl, rfl, fun r hr => ?_,
    ⟨rfl, rfl, rfl, rfl⟩, rfl, rfl⟩
  have hne : r ≠ .status := by rintro rfl; cases hr
  rw [readReg_respond, writeReg, readReg_issue hne, readReg_nextSlot]

/-! ### Reset -/

/-- Every register of the window reads 0 after reset (R51). -/
theorem readReg_reset (r : Reg) : readReg State.reset r = 0 := by
  cases r with
  | key | iv | fb | state | din | dout | ks => simp [readReg, State.reset]
  | _ => rfl

/-- Settles O10: the reset event leaves the registers as in the state after reset, where each reads 0. -/
theorem resetClearsEveryRegister : Obligations.ResetClearsEveryRegister := by
  refine ⟨fun s rest hh => ?_, readReg_reset, rfl, rfl⟩
  have hdue : completionDue s = false := (completionDue_eq_false_iff s).mpr (.inr (.inr (by rw [hh]; rfl)))
  have hstep : step s = .next (hardReset rest s) := by rw [step_eq_hostTurn hdue, hostTurn_reset hh]
  exact ⟨_, hstep, fun r => (readReg_hardReset rest s r).trans (readReg_reset r), rfl, rfl, rfl⟩

end Sys2Proof
end
